-- ==== Sys2Proof/Word.lean ====
section
/-! DEFINITION. The word types of the CP-224. Only quantities that the manual treats as bits are bit vectors: the 32-bit
time stamp (R1), the 16-bit payload word and cycle number (R164, R20), the 3-bit station address (R146), the 4-bit frame
class (R146) and the 12-bit conversion code (R135). Angles, currents, pressures and errors are signed integers, counts are
natural numbers. -/

namespace Sys2Proof

/-- A reading of the 10 MHz time base (R1): a 32-bit counter that wraps. -/
abbrev Tick := BitVec 32

/-- One payload word of an engine-link frame (R146), and the cycle number of the angle decoder (R20). -/
abbrev Word16 := BitVec 16

/-- A station address, 0 to 7 (R146, R167). -/
abbrev Address := BitVec 3

/-- A code of the 12-bit converter, 0 to 4095 (R135). -/
abbrev Code12 := BitVec 12

end Sys2Proof
end

