-- ==== Sys2Proof/Syntax.lean ====
section
/-! DEFINITION. The commands of the CP-224: one constructor of `Instr` for each row of spec/opcode_table.json, with the
operands the row's rule speaks of, and the types of those operands. The table gives no row any bits. -/

namespace Sys2Proof

/-- The two channels: A is the intake cam, B the exhaust cam. -/
inductive Channel where
  | a
  | b
  deriving DecidableEq, Repr

/-- The three filtered angle inputs (R2). -/
inductive AnglePin where
  | crank
  | camA
  | camB
  deriving DecidableEq, Repr

/-- The two crossings of the reset threshold that POWER_ON_RESET names (R174). -/
inductive SupplyEdge where
  /-- VDD falls below the threshold: power-on reset acts on all of the state. -/
  | falls
  /-- VDD rises through the threshold: power-on reset is released and the straps are sampled (R167). -/
  | rises
  deriving DecidableEq, Repr

/-- The head role of the ROLE strap (R167). -/
inductive Role where
  | front
  | rear
  deriving DecidableEq, Repr

/-- The fault-line mode of the FLTMODE strap (R167). -/
inductive FaultLineMode where
  | level
  | pulse
  deriving DecidableEq, Repr

/-- The level of a logic pin. -/
inductive PinLevel where
  | low
  | high
  deriving DecidableEq, Repr

/-- The levels of the five strap pins (R167). -/
structure StrapPins where
  addr2 : PinLevel
  addr1 : PinLevel
  addr0 : PinLevel
  role : PinLevel
  fltmode : PinLevel
  deriving DecidableEq, Repr

/-- What the part holds of the strap pins between two samplings (R167). -/
structure Straps where
  address : Address
  role : Role
  faultLine : FaultLineMode
  deriving DecidableEq, Repr

/-- The header fields of a frame other than its class and its length (R146). -/
structure Header where
  source : Address
  addressed : Bool
  dest : Address
  deriving DecidableEq, Repr

/-- A frame of the engine link: class, header and payload words; its length field is the number of words (R146). -/
structure Frame where
  cls : BitVec 4
  header : Header
  payload : List Word16
  deriving DecidableEq, Repr

/-- The blocks that take the cycle reference as their own event. The manual lets them take it in any order (R31, R61, R65,
R72, R95, R122). -/
inductive CycleBlock where
  | meterA
  | meterB
  | target
  | oil
  | sequencer
  | driverA
  | driverB
  | statusAssembly
  deriving DecidableEq, Repr

/-- The commands the CP-224 takes: one constructor for each row of spec/opcode_table.json. -/
inductive Instr where
  /-- POWER_ON_RESET (R174): the crossing of the threshold, and the levels of the strap pins then. -/
  | powerOnReset (edge : SupplyEdge) (pins : StrapPins)
  /-- FILTER_CANDIDATE_OPEN (R2): the pin leaves its recognised level at the time stamp. -/
  | filterCandidateOpen (pin : AnglePin) (stamp : Tick)
  /-- GLITCH (R3): the pin returns before its filter time expires. -/
  | glitch (pin : AnglePin)
  /-- FILTER_TIME_EXPIRY (R2): the open candidate of the pin is recognised. `order` is the order in which the blocks take
  the cycle reference, if this edge is one. -/
  | filterTimeExpiry (pin : AnglePin) (order : List CycleBlock)
  /-- STALL_TIMER_EXPIRY (R12). -/
  | stallTimerExpiry
  /-- CRANK_UNSTABLE (R21): the counted loss that brings the sync-loss counter to 4. -/
  | crankUnstable
  /-- LOSS_FREE_RUN_EXPIRY (R22): the count of a cycle reference that brings the loss-free run to 256. -/
  | lossFreeRunExpiry
  /-- CAM_LOST (R39): the missing-edge test of the channel's meter that leaves its count at 4. -/
  | camLost (ch : Channel)
  /-- CAM_NOISE (R37): the noise test of the channel's meter with a count of 4 or more. -/
  | camNoise (ch : Channel)
  /-- TARGET (R45): a good TARGET frame. -/
  | target (h : Header) (mode intake exhaust : Word16)
  /-- TARGET_STALE (R47): the target unit takes a cycle reference that makes its pair stale. -/
  | targetStale
  /-- OIL_READY (R60): the oil evaluation that brings the ready run to 3. -/
  | oilReady
  /-- OIL_LOW (R61): the oil evaluation at which oil-low changes from false to true. -/
  | oilLow
  /-- PEER_ENTRY_EXPIRY (R68): the budget computation at which the entry's age passes 16. -/
  | peerEntryExpiry (addr : Address)
  /-- STATUS (R67): a good STATUS frame of another station. -/
  | status (h : Header) (w0 w1 w2 w3 w4 w5 w6 : Word16)
  /-- ENGINE (R78): a good ENGINE frame. -/
  | engine (h : Header) (code : Word16)
  /-- ENGINE_STATE_STALE (R79): the cycle reference that brings the engine age to 9 with RUNNING. -/
  | engineStateStale
  /-- PARK_PIN_CHANGE (R80). -/
  | parkPinChange
  /-- PARK_REQUEST_RECOGNISED (R80). -/
  | parkRequestRecognised
  /-- RELEASE_SUCCESS (R82): the phase-measured event that brings the success run to 2. -/
  | releaseSuccess (ch : Channel)
  /-- RELEASE_TIMEOUT (R84): the cycle reference that brings the release count to 8. -/
  | releaseTimeout (ch : Channel)
  /-- RETRY_HOLD_EXPIRY (R85): the cycle reference that brings the retry hold to 0. -/
  | retryHoldExpiry (ch : Channel)
  /-- RETURN_ARRIVAL (R89): the phase-measured event that brings the return run to 3. -/
  | returnArrival (ch : Channel)
  /-- NO_RETURN (R90): the cycle reference that brings the return count to 60. -/
  | noReturn (ch : Channel)
  /-- NULL_TRANSFER (R108): the stationary update that brings the count to 40. -/
  | nullTransfer (ch : Channel)
  /-- TRACK_ERROR (R114): the update that brings the track-error count to 40. -/
  | trackError (ch : Channel)
  /-- PWM_PERIOD_START (R121). -/
  | pwmPeriodStart (ch : Channel)
  /-- ON_TIME_END (R121). -/
  | onTimeEnd (ch : Channel)
  /-- OVERCURRENT (R124): the coil current, in mA, that has stood for 8 µs of on-time. -/
  | overcurrent (ch : Channel) (current : Nat)
  /-- OPEN_COIL_BLANKING_EXPIRY (R126). -/
  | openCoilBlankingExpiry (ch : Channel)
  /-- OPEN_COIL (R126): the open-coil test that brings the run to 4. -/
  | openCoil (ch : Channel)
  /-- CURRENT_SAMPLE (R138): an IA or IB slot completes with the code. -/
  | currentSample (ch : Channel) (code : Code12)
  /-- OILP_SAMPLE (R141). -/
  | oilpSample (code : Code12)
  /-- OILP_SENSOR (R142): the out-of-band code that brings the range run to 8. -/
  | oilpSensor (code : Code12)
  /-- VSUP_SAMPLE (R139). -/
  | vsupSample (code : Code12)
  /-- TDIE_SAMPLE (R140). -/
  | tdieSample (code : Code12)
  /-- CLEAR (R179): a good CLEAR frame. -/
  | clear (h : Header) (w : Word16)
  /-- CONFIG (R169): a good CONFIG frame. -/
  | config (h : Header) (id value : Word16)
  /-- CLOSE (R172): a good CLOSE frame. -/
  | close (h : Header)
  /-- RESTART (R174): a good RESTART frame, and the levels of the strap pins at its last end bit. -/
  | restart (h : Header) (pins : StrapPins)
  /-- FAULT_FRAME_RECEIVED (R150): a good FAULT frame of another station. -/
  | faultFrameReceived (h : Header) (w0 w1 w2 : Word16)
  /-- FRAME_PASSED_OVER (R150): a good frame that is delivered to no block. -/
  | framePassedOver (f : Frame)
  /-- ADDRESS_CLASH (R153): a good frame that carries the part's own source address. -/
  | addressClash (f : Frame)
  /-- FRAME_DISCARDED (R152): the bits read from the start bit on, recessive true. The first is dominant, but in the
  remains of the part's own frame after a start bit read recessive (R151). -/
  | frameDiscarded (bits : List Bool)
  /-- LINK_ERRORS (R152): the discard that brings the discard run to 3. -/
  | linkErrors
  /-- LINK_ERRORS_CLEARED (R152): the good frame that brings the good run to 16. -/
  | linkErrorsCleared
  /-- SEND_START (R158). -/
  | sendStart
  /-- LOST_ARBITRATION (R159): the bit of the frame, counted on the line from the start bit as bit 0. -/
  | lostArbitration (bit : Nat)
  /-- BIT_ERROR (R160): the bit of the frame, counted in the same way. -/
  | bitError (bit : Nat)
  /-- SLOT_DROP (R161): the bit error that brings the failed-attempt count to 8. -/
  | slotDrop (bit : Nat)
  /-- TRANSMISSION_COMPLETE (R162). -/
  | transmissionComplete
  /-- BUS_STUCK (R154). -/
  | busStuck
  /-- BUS_STUCK_CLEARED (R154). -/
  | busStuckCleared
  /-- STATUS_TIMER_EXPIRY (R156). -/
  | statusTimerExpiry
  /-- FAULT_PULSE_EXPIRY (R178). -/
  | faultPulseExpiry
  /-- START_BIT (R145): a dominant bit is read outside a frame. -/
  | startBit
  deriving DecidableEq, Repr

end Sys2Proof
end

