-- ==== Sys2Proof/Config.lean ====
section
/-! DEFINITION. What the manual leaves to the board around the part and the model must name for `State.reset`: the levels of
the strap pins. Every command that samples the straps carries their levels as an operand, so these values stand in
`State.reset` alone. -/

namespace Sys2Proof.Config

/-- DESIGN CHOICE (log entry 1): the levels of the strap pins that `State.reset` has sampled. The manual gives the board no
strapping. The model takes every pin low: address 0, FRONT, level mode. -/
def resetPins : StrapPins := { addr2 := .low, addr1 := .low, addr0 := .low, role := .low, fltmode := .low }

end Sys2Proof.Config
end

