-- ==== Sys2Proof/WellFormed.lean ====
section
/-! DEFINITION. The checks a command's operands must pass to be one that the part can meet: the bounds the manual gives the
quantities they carry. A command that fails a check still has a meaning (`exec` is total). -/

namespace Sys2Proof

/-- A frame on the line has at most eight payload words, and a broadcast carries 000 in its address bits (R146). -/
def Frame.wellFormed (f : Frame) : Bool :=
  decide (f.payload.length ≤ 8) && (f.header.addressed || f.header.dest == 0)

/-- The greatest number of bits a frame can have on the line: 44 + 18 × L with L = 8 (section 9.2). -/
def Frame.maxLineBits : Nat := 188

/-- The operand checks, command by command. -/
def Instr.wellFormed : Instr → Bool
  | .powerOnReset _ _ => true
  | .filterCandidateOpen _ _ => true
  | .glitch _ => true
  | .filterTimeExpiry _ order => decide order.Nodup
  | .stallTimerExpiry => true
  | .crankUnstable => true
  | .lossFreeRunExpiry => true
  | .camLost _ => true
  | .camNoise _ => true
  | .target _ _ _ _ => true
  | .targetStale => true
  | .oilReady => true
  | .oilLow => true
  | .peerEntryExpiry _ => true
  | .status _ _ _ _ _ _ _ _ => true
  | .engine _ _ => true
  | .engineStateStale => true
  | .parkPinChange => true
  | .parkRequestRecognised => true
  | .releaseSuccess _ => true
  | .releaseTimeout _ => true
  | .retryHoldExpiry _ => true
  | .returnArrival _ => true
  | .noReturn _ => true
  | .nullTransfer _ => true
  | .trackError _ => true
  | .pwmPeriodStart _ => true
  | .onTimeEnd _ => true
  | .overcurrent _ _ => true
  | .openCoilBlankingExpiry _ => true
  | .openCoil _ => true
  | .currentSample _ _ => true
  | .oilpSample _ => true
  | .oilpSensor code => decide (code.toNat < 205 ∨ 3890 < code.toNat)
  | .vsupSample _ => true
  | .tdieSample _ => true
  | .clear _ _ => true
  | .config _ _ _ => true
  | .close _ => true
  | .restart _ _ => true
  | .faultFrameReceived _ _ _ _ => true
  | .framePassedOver f => f.wellFormed
  | .addressClash f => f.wellFormed
  | .frameDiscarded bits => decide (bits ≠ []) && decide (bits.length ≤ Frame.maxLineBits)
  | .linkErrors => true
  | .linkErrorsCleared => true
  | .sendStart => true
  | .lostArbitration bit => decide (1 ≤ bit ∧ bit ≤ 7)
  | .bitError bit => decide (bit < Frame.maxLineBits)
  | .slotDrop bit => decide (bit < Frame.maxLineBits)
  | .transmissionComplete => true
  | .busStuck => true
  | .busStuckCleared => true
  | .statusTimerExpiry => true
  | .faultPulseExpiry => true
  | .startBit => true

end Sys2Proof
end

