-- ==== Sys2Proof/Machine/Pins.lean ====
section
/-! DEFINITION. Pin levels, and the sampling of the strap pins (R167). -/

namespace Sys2Proof

/-- The other level of a pin. -/
def PinLevel.other : PinLevel → PinLevel
  | .low => .high
  | .high => .low

end Sys2Proof

namespace Sys2Proof.Machine

/-- A high pin gives 1, a low pin 0 (R167). -/
def pinBit : PinLevel → Nat
  | .low => 0
  | .high => 1

/-- What the part samples from the strap pins (R167): the address with ADDR2 its most significant bit, ROLE low for FRONT,
FLTMODE low for level mode. -/
def sampleStraps (p : StrapPins) : Straps where
  address := BitVec.ofNat 3 (4 * pinBit p.addr2 + 2 * pinBit p.addr1 + pinBit p.addr0)
  role := match p.role with
    | .low => .front
    | .high => .rear
  faultLine := match p.fltmode with
    | .low => .level
    | .high => .pulse

end Sys2Proof.Machine
end

