-- ==== Sys2Proof/Machine/State.lean ====
section
/-! DEFINITION. The state of the CP-224 as plain data: every item of the state tables of R5, R24, R43, R58, R74, R98, R119,
R133, R149, R168 and R176, the timers, and the pins that are not functions of it; and the state right after reset. -/

namespace Sys2Proof.Machine

/-- Why the machine would stop with a fault: it never does. The manual gives every command an effect, or says that it changes
nothing, so the type has no constructor. -/
inductive Fault where
  deriving DecidableEq, Repr

/-- Why the machine would refuse a command. -/
inductive Refusal where
  /-- A command whose arm of `exec` has no meaning. No arm is left so. Safe: a refused command proves nothing. -/
  | notModelled (mnemonic : String)
  deriving DecidableEq, Repr

/-- One value for each channel. -/
structure Pair (α : Type) where
  a : α
  b : α
  deriving DecidableEq, Repr

/-- The value of one channel. -/
def Pair.get {α : Type} (p : Pair α) : Channel → α
  | .a => p.a
  | .b => p.b

/-- The pair with one channel's value replaced. -/
def Pair.set {α : Type} (p : Pair α) (ch : Channel) (v : α) : Pair α :=
  match ch with
  | .a => { p with a := v }
  | .b => { p with b := v }

/-- The same value for both channels. -/
def Pair.both {α : Type} (v : α) : Pair α := { a := v, b := v }

/-- The channel that is not the given one. -/
def otherChannel : Channel → Channel
  | .a => .b
  | .b => .a

/-- The five cam teeth (R16). -/
inductive Tooth where
  | e0
  | e1
  | e2
  | e3
  | e4
  deriving DecidableEq, Repr

/-- One value for each cam tooth. -/
structure PerTooth (α : Type) where
  e0 : α
  e1 : α
  e2 : α
  e3 : α
  e4 : α
  deriving DecidableEq, Repr

/-- The value of one tooth. -/
def PerTooth.get {α : Type} (r : PerTooth α) : Tooth → α
  | .e0 => r.e0
  | .e1 => r.e1
  | .e2 => r.e2
  | .e3 => r.e3
  | .e4 => r.e4

/-- The record with one tooth's value replaced. -/
def PerTooth.set {α : Type} (r : PerTooth α) (k : Tooth) (v : α) : PerTooth α :=
  match k with
  | .e0 => { r with e0 := v }
  | .e1 => { r with e1 := v }
  | .e2 => { r with e2 := v }
  | .e3 => { r with e3 := v }
  | .e4 => { r with e4 := v }

/-- Every tooth's value changed alike. -/
def PerTooth.map {α β : Type} (f : α → β) (r : PerTooth α) : PerTooth β :=
  { e0 := f r.e0, e1 := f r.e1, e2 := f r.e2, e3 := f r.e3, e4 := f r.e4 }

/-- Two records combined tooth by tooth. -/
def PerTooth.map2 {α β γ : Type} (f : α → β → γ) (r : PerTooth α) (q : PerTooth β) : PerTooth γ :=
  { e0 := f r.e0 q.e0, e1 := f r.e1 q.e1, e2 := f r.e2 q.e2, e3 := f r.e3 q.e3, e4 := f r.e4 q.e4 }

/-! ### Time base and timers -/

/-- A timer that starts again from 0 at each end. -/
structure Cyclic where
  /-- Ticks since the latest start. -/
  ticks : Nat
  /-- The ends that have been reached and whose command has not been taken: the model's own field. -/
  owed : Nat
  deriving DecidableEq, Repr

/-- The time base and every timer that counts ticks of it. -/
structure Timers where
  /-- The free-running 32-bit counter (R1). -/
  timeBase : Tick
  /-- Ticks into the PWM period timer's period, 0..2499 (R119, R121). -/
  pwm : Nat
  /-- Period starts of each channel that the period timer has passed and whose PWM_PERIOD_START has not been taken: the
  model's own field. -/
  periodsOwed : Pair Nat
  /-- Ticks since each channel's output last turned on, up to the comparator's 80 (R124). Read only while it is on. -/
  sinceOn : Pair Nat
  /-- The slot timer: 0..499 ticks into the slot (R133), and the completions whose sample has not been taken. -/
  slot : Cyclic
  /-- The index of the slot in progress, 0..9 (R133). -/
  slotIndex : Nat
  /-- The STATUS timer: 0..499,999 ticks while it runs, `none` while stopped (R149, R156). -/
  status : Option Cyclic
  /-- The pulse timer of FAULT_N: up to 10,000 ticks while it runs, `none` while stopped (R178). -/
  pulse : Option Nat
  /-- Ticks for which the PARK pin has held a level other than the recognised one, `none` while it holds that one (R80). -/
  park : Option Nat
  /-- The open-coil blanking of each channel: ticks run, `none` when expired (R119, R126). -/
  blanking : Pair (Option Nat)
  /-- Ticks into the link's bit time, 0..39 (R145). -/
  bitPhase : Nat
  deriving DecidableEq, Repr

/-! ### Angle decoder (chapter 1) -/

/-- An open candidate change of an angle input (R2, R4). -/
structure Candidate where
  /-- The time base's reading at the instant the pin changed. -/
  stamp : Tick
  /-- The filter time, in ticks, given by parameter 15 when the candidate opened. -/
  filterTime : Nat
  deriving DecidableEq, Repr

/-- The input filter of one angle pin: its recognised level, and the open candidate if there is one (R2). The pin itself
stands at the recognised level while no candidate is open and at the other level while one is. -/
structure InputFilter where
  level : PinLevel
  candidate : Option Candidate
  deriving DecidableEq, Repr

/-- The filters of the three angle inputs. -/
structure Filters where
  crank : InputFilter
  camA : InputFilter
  camB : InputFilter
  deriving DecidableEq, Repr

/-- The crank states (R5). -/
inductive CrankState where
  | stopped
  | gapSeek
  | revSync
  | cycleSync
  deriving DecidableEq, Repr

/-- The half of the engine cycle (R5). -/
inductive Half where
  | zero
  | one
  deriving DecidableEq, Repr

/-- The angle decoder's items (R5), but for the recognised levels, which stand in `Filters`. -/
structure Decoder where
  crank : CrankState
  lastEdge : Option Tick
  pRef : Option Nat
  tooth : Option Nat
  half : Option Half
  /-- The stall timer: running from the last accepted edge, or stopped. -/
  stallRunning : Bool
  prevCam : Pair (Option Nat)
  cycleNumber : Word16
  lossCounter : Nat
  lossFreeRun : Nat
  deriving DecidableEq, Repr

/-! ### Phase meters (chapter 2) -/

/-- One record of the edge record ring (R24). -/
structure RingRecord where
  cycle : Word16
  raw : Int
  valid : Bool
  deriving DecidableEq, Repr

/-- A phase meter's items (R24). -/
structure Meter where
  parkOffset : Option Int
  corr : PerTooth Int
  ring : PerTooth RingRecord
  estimate : Option Int
  strayCount : Nat
  edgeSeen : Bool
  missing : Nat
  parkWatch : Bool
  deriving DecidableEq, Repr

/-! ### Target unit (chapter 3) -/

/-- The mode of a target pair (R43). -/
inductive TargetMode where
  | track
  | park
  deriving DecidableEq, Repr

/-- The record of the pending slot (R43, R45). -/
structure Request where
  mode : TargetMode
  intake : Word16
  exhaust : Word16
  deriving DecidableEq, Repr

/-- The target unit's items (R43). -/
structure TargetUnit where
  pendingSlot : Option Request
  mode : TargetMode
  active : Pair Int
  age : Nat
  effective : Pair Int
  moveOpen : Pair Bool
  deriving DecidableEq, Repr

/-! ### Oil budget unit (chapter 4) -/

/-- An entry of the peer table (R58, R66). -/
structure PeerEntry where
  address : Address
  claim : Nat
  age : Nat
  deriving DecidableEq, Repr

/-- The oil budget unit's items (R58). The peer table is a list in strictly rising order of address: the manual's table
keeps no order (R66), and so equal tables are equal lists. -/
structure OilUnit where
  ready : Bool
  low : Bool
  readyRun : Nat
  lowRun : Nat
  ownClaim : Nat
  demand : Nat
  budget : Nat
  step : Nat
  limiting : Bool
  peers : List PeerEntry
  deriving DecidableEq, Repr

/-! ### Channel sequencers (chapter 5) -/

/-- The five channel states (R74). -/
inductive ChannelState where
  | parked
  | releasing
  | tracking
  | returning
  | fault
  deriving DecidableEq, Repr

/-- A channel sequencer's items (R74). -/
structure Sequencer where
  state : ChannelState
  attempts : Nat
  retryHold : Nat
  releaseCount : Nat
  successRun : Nat
  returnCount : Nat
  returnRun : Nat
  deriving DecidableEq, Repr

/-- The engine state (R74, R78). -/
inductive EngineState where
  | stopped
  | running
  deriving DecidableEq, Repr

/-- The station's items of the sequencer block (R74), and the level of the PARK pin that R80 watches. -/
structure EngineStore where
  engine : EngineState
  age : Nat
  /-- The recognised PARK request: true is requested. -/
  parkRequest : Bool
  parkPin : PinLevel
  deriving DecidableEq, Repr

/-! ### Position controllers (chapter 6) -/

/-- A position controller's items (R98). -/
structure Controller where
  integrator : Int
  learnedNull : Int
  lastError : Option Int
  command : Nat
  stationary : Nat
  trackErrors : Nat
  reached : Bool
  deriving DecidableEq, Repr

/-! ### Solenoid drivers (chapter 7) -/

/-- A solenoid driver's items (R119), and the on-time of the PWM period in progress, which R121 takes at its start. -/
structure Driver where
  rEst : Nat
  duty : Nat
  saturated : Bool
  /-- The driver pin: true is on. -/
  output : Bool
  /-- The on-time, in ticks, taken at the latest period start. -/
  onTime : Nat
  trip : Bool
  openRun : Nat
  deriving DecidableEq, Repr

/-- The station's supply and temperature conditions (R119). -/
structure Conditions where
  underVoltage : Bool
  derate : Bool
  thermalCut : Bool
  deriving DecidableEq, Repr

/-! ### Sense sequencer (chapter 8) -/

/-- The sense sequencer's items (R133), but for the slot timer and the slot index, which stand in `Timers`. -/
structure Sense where
  currents : Pair (Option Nat)
  pressure : Option Int
  supply : Option Int
  temperature : Option Int
  rangeRun : Nat
  deriving DecidableEq, Repr

/-! ### Link controller (chapter 9) -/

/-- The four send slots (R149). -/
inductive SlotName where
  | status
  | faultA
  | faultB
  | faultStation
  deriving DecidableEq, Repr

/-- A send slot's items (R149). -/
structure Slot where
  content : Option Frame
  onLine : Bool
  attempts : Nat
  deriving DecidableEq, Repr

/-- Whether the controller is reading a frame (R149), and whether that frame is the remains of the part's own after a bit
error (R151). -/
inductive Reading where
  | no
  | frame
  | ownRemains
  deriving DecidableEq, Repr

/-- The transmitter: free, or sending a frame copied from a named slot (R149). -/
inductive Transmitter where
  | free
  | sending (slot : SlotName) (frame : Frame)
  deriving DecidableEq, Repr

/-- The link controller's items (R149), but for the STATUS timer. -/
structure Link where
  gapCount : Nat
  reading : Reading
  discardRun : Nat
  goodRun : Nat
  linkErrors : Bool
  dominantRun : Nat
  busStuck : Bool
  silence : Bool
  transmitter : Transmitter
  faultOrder : List SlotName
  status : Slot
  faultA : Slot
  faultB : Slot
  faultStation : Slot
  deriving DecidableEq, Repr

/-! ### Configuration store (chapter 10) -/

/-- The twenty parameters, 0 to 19 in the table's order (R168). -/
structure Params where
  /-- Parameter 0, L, in 0.1°. -/
  overlapLimit : Nat
  /-- Parameter 1, in 0.1°. -/
  intakeMax : Nat
  /-- Parameter 2, in 0.1°. -/
  exhaustMax : Nat
  /-- Parameter 3. -/
  kp : Nat
  /-- Parameter 4. -/
  ki : Nat
  /-- Parameter 5, in 0.1° per update. -/
  slewMax : Nat
  /-- Parameter 6, in 0.1°. -/
  holdWindow : Nat
  /-- Parameter 7, in mA. -/
  nullBase : Nat
  /-- Parameter 8, in mA. -/
  currentLimit : Nat
  /-- Parameter 9, in 0.01 Ω. -/
  coilResistance : Nat
  /-- Parameter 10, in kPa. -/
  releasePressure : Nat
  /-- Parameter 11, in kPa. -/
  lowOilPressure : Nat
  /-- Parameter 12, in kPa. -/
  budgetZero : Nat
  /-- Parameter 13, in kPa. -/
  budgetStep : Nat
  /-- Parameter 14, in mA. -/
  overcurrent : Nat
  /-- Parameter 15. -/
  filterCode : Nat
  /-- Parameter 16. -/
  st0Source : Nat
  /-- Parameter 17. -/
  st1Source : Nat
  /-- Parameter 18, in cycle references. -/
  freshness : Nat
  /-- Parameter 19, in mA. -/
  releaseCurrent : Nat
  deriving DecidableEq, Repr

/-- The defaults of the parameter table (R168). -/
def Params.default : Params where
  overlapLimit := 700
  intakeMax := 500
  exhaustMax := 400
  kp := 24
  ki := 8
  slewMax := 20
  holdWindow := 5
  nullBase := 480
  currentLimit := 1000
  coilResistance := 750
  releasePressure := 150
  lowOilPressure := 60
  budgetZero := 80
  budgetStep := 5
  overcurrent := 2000
  filterCode := 1
  st0Source := 1
  st1Source := 2
  freshness := 4
  releaseCurrent := 800

/-- The configuration store's items (R168). -/
structure Store where
  params : Params
  windowOpen : Bool
  checkValue : Word16
  deriving DecidableEq, Repr

/-! ### Fault unit (chapter 11) -/

/-- The channel fault kinds (chapter 11's table). -/
inductive ChannelFault where
  | camLost
  | camNoise
  | parkOffsetRange
  | lockStuck
  | noReturn
  | trackError
  | overcurrent
  | openCoil
  deriving DecidableEq, Repr

/-- A channel's fault set: a kind is present or absent (R176). -/
structure ChannelFaults where
  camLost : Bool
  camNoise : Bool
  parkOffsetRange : Bool
  lockStuck : Bool
  noReturn : Bool
  trackError : Bool
  overcurrent : Bool
  openCoil : Bool
  deriving DecidableEq, Repr

/-- The station fault kinds (chapter 11's table). -/
inductive StationFault where
  | oilpSensor
  | addressClash
  | crankUnstable
  deriving DecidableEq, Repr

/-- The station fault set (R176). -/
structure StationFaults where
  oilpSensor : Bool
  addressClash : Bool
  crankUnstable : Bool
  deriving DecidableEq, Repr

/-- The empty channel fault set. -/
def ChannelFaults.empty : ChannelFaults where
  camLost := false
  camNoise := false
  parkOffsetRange := false
  lockStuck := false
  noReturn := false
  trackError := false
  overcurrent := false
  openCoil := false

/-- The empty station fault set. -/
def StationFaults.empty : StationFaults where
  oilpSensor := false
  addressClash := false
  crankUnstable := false

/-- The three fault sets (R176). -/
structure Faults where
  channel : Pair ChannelFaults
  station : StationFaults
  deriving DecidableEq, Repr

end Sys2Proof.Machine

namespace Sys2Proof.Machine

/-- The whole state of the part, and the queue of the commands that are waiting. -/
structure State where
  /-- The commands waiting, first in, first out: the model's own field. -/
  pending : List Instr
  /-- VDD stands below the reset threshold, so that power-on reset acts on all of the state (R174). -/
  supplyLow : Bool
  timers : Timers
  filters : Filters
  decoder : Decoder
  meters : Pair Meter
  target : TargetUnit
  oil : OilUnit
  engine : EngineStore
  sequencers : Pair Sequencer
  controllers : Pair Controller
  drivers : Pair Driver
  conditions : Conditions
  sense : Sense
  link : Link
  store : Store
  straps : Straps
  faults : Faults
  deriving DecidableEq, Repr

/-- The recognised level is high and no candidate is open (R2, R4). -/
def InputFilter.atReset : InputFilter := { level := .high, candidate := none }

/-- R5's column "After reset". -/
def Decoder.atReset : Decoder where
  crank := .stopped
  lastEdge := none
  pRef := none
  tooth := none
  half := none
  stallRunning := false
  prevCam := .both none
  cycleNumber := 0
  lossCounter := 0
  lossFreeRun := 0

/-- R24's column "After reset". A record of the ring is invalid. Its other two fields, for which the manual gives no value,
are 0 (DESIGN CHOICE, log entry 1). -/
def Meter.atReset : Meter where
  parkOffset := none
  corr := { e0 := 0, e1 := 0, e2 := 0, e3 := 0, e4 := 0 }
  ring :=
    let r : RingRecord := { cycle := 0, raw := 0, valid := false }
    { e0 := r, e1 := r, e2 := r, e3 := r, e4 := r }
  estimate := none
  strayCount := 0
  edgeSeen := false
  missing := 0
  parkWatch := false

/-- R43's column "After reset". -/
def TargetUnit.atReset : TargetUnit where
  pendingSlot := none
  mode := .park
  active := .both 0
  age := 255
  effective := .both 0
  moveOpen := .both false

/-- R58's column "After reset". -/
def OilUnit.atReset : OilUnit where
  ready := false
  low := false
  readyRun := 0
  lowRun := 0
  ownClaim := 0
  demand := 0
  budget := 0
  step := 0
  limiting := false
  peers := []

/-- R74's column "After reset" for one channel. -/
def Sequencer.atReset : Sequencer where
  state := .parked
  attempts := 3
  retryHold := 0
  releaseCount := 0
  successRun := 0
  returnCount := 0
  returnRun := 0

/-- R74's column "After reset" for the station. An undriven PARK pin is pulled up and reads high (R80). -/
def EngineStore.atReset : EngineStore where
  engine := .stopped
  age := 255
  parkRequest := true
  parkPin := .high

/-- R98's column "After reset", with the null base at its default. -/
def Controller.atReset : Controller where
  integrator := 0
  learnedNull := Params.default.nullBase
  lastError := none
  command := 0
  stationary := 0
  trackErrors := 0
  reached := false

/-- R119's column "After reset", with the coil resistance at its default. The on-time of a period that has not begun is 0. -/
def Driver.atReset : Driver where
  rEst := Params.default.coilResistance
  duty := 0
  saturated := false
  output := false
  onTime := 0
  trip := false
  openRun := 0

/-- R133's column "After reset". -/
def Sense.atReset : Sense where
  currents := .both none
  pressure := none
  supply := none
  temperature := none
  rangeRun := 0

/-- An empty send slot (R149). -/
def Slot.empty : Slot := { content := none, onLine := false, attempts := 0 }

/-- R149's column "After reset". -/
def Link.atReset : Link where
  gapCount := 0
  reading := .no
  discardRun := 0
  goodRun := 0
  linkErrors := false
  dominantRun := 0
  busStuck := false
  silence := false
  transmitter := .free
  faultOrder := [.faultStation, .faultA, .faultB]
  status := .empty
  faultA := .empty
  faultB := .empty
  faultStation := .empty

/-- The timers after reset: the time base, the PWM period timer, the slot timer and the STATUS timer start from 0, the other
timers are stopped (R1, R119, R133, R149, R178). The link's first read comes one bit time after reset, so that a recessive line
is idle 44 µs after it, as R145 has it (DESIGN CHOICE, log entry 1). -/
def Timers.atReset : Timers where
  timeBase := 0
  pwm := 0
  periodsOwed := .both 0
  sinceOn := .both 0
  slot := { ticks := 0, owed := 0 }
  slotIndex := 0
  status := some { ticks := 0, owed := 0 }
  pulse := none
  park := none
  blanking := .both none
  bitPhase := 30

/-- The machine right after reset: every item at the value its chapter's table gives for reset (R174), the straps as log
entry 1 names them, no end of a timer owed, and no command waiting. -/
def State.reset : State where
  pending := []
  supplyLow := false
  timers := .atReset
  filters := { crank := .atReset, camA := .atReset, camB := .atReset }
  decoder := .atReset
  meters := .both .atReset
  target := .atReset
  oil := .atReset
  engine := .atReset
  sequencers := .both .atReset
  controllers := .both .atReset
  drivers := .both .atReset
  conditions := { underVoltage := false, derate := false, thermalCut := false }
  sense := .atReset
  link := .atReset
  store := { params := .default, windowOpen := true, checkValue := 6990 }
  straps := sampleStraps Config.resetPins
  faults := { channel := .both .empty, station := .empty }

end Sys2Proof.Machine
end

