-- ==== Sys2Proof/Machine/Ops.lean ====
section
/-! DEFINITION. The named operations over the state: the manual's arithmetic, one update for each item of the state, the
passage of time, and the quantities that several blocks read (Imax_eff, the cut, the head offset). -/

namespace Sys2Proof.Machine

/-! ### Arithmetic (00_scope.md, "Arithmetic") -/

/-- "Limited to the range lo..hi". -/
def limit (lo hi x : Int) : Int := if x < lo then lo else if hi < x then hi else x

/-- "Limited to the range lo..hi", of natural numbers. -/
def limitNat (lo hi x : Nat) : Nat := if x < lo then lo else if hi < x then hi else x

/-- "Wrapped into −3600..+3599". -/
def wrapAngle (x : Int) : Int := (x + 3600) % 7200 - 3600

/-- "Modulo 7200": brought into 0..7199. -/
def modCycle (x : Int) : Int := x % 7200

/-- "Steps n units toward target": moved by n, becoming the target if the step would reach or pass it. -/
def stepToward (n : Int) (target x : Int) : Int :=
  if x < target then min (x + n) target else max (x - n) target

/-- Division that truncates toward zero. -/
def divTrunc (x y : Int) : Int := x.tdiv y

/-- A count that increments and saturates. -/
def bump (top n : Nat) : Nat := min top (n + 1)

/-- The saturated interval from time stamp t1 to t2 (R1). -/
def satInterval (t1 t2 : Tick) : Nat := min (t2 - t1).toNat 1048575

/-- 1 ms in ticks (R80, R126, R178). -/
def millisecond : Nat := 10000

/-! ### One update for each item -/

def State.modTimers (s : State) (f : Timers → Timers) : State := { s with timers := f s.timers }
def State.modFilters (s : State) (f : Filters → Filters) : State := { s with filters := f s.filters }
def State.modDecoder (s : State) (f : Decoder → Decoder) : State := { s with decoder := f s.decoder }
def State.modTarget (s : State) (f : TargetUnit → TargetUnit) : State := { s with target := f s.target }
def State.modOil (s : State) (f : OilUnit → OilUnit) : State := { s with oil := f s.oil }
def State.modEngine (s : State) (f : EngineStore → EngineStore) : State := { s with engine := f s.engine }
def State.modConditions (s : State) (f : Conditions → Conditions) : State := { s with conditions := f s.conditions }
def State.modSense (s : State) (f : Sense → Sense) : State := { s with sense := f s.sense }
def State.modLink (s : State) (f : Link → Link) : State := { s with link := f s.link }
def State.modStore (s : State) (f : Store → Store) : State := { s with store := f s.store }
def State.modFaults (s : State) (f : Faults → Faults) : State := { s with faults := f s.faults }

/-- One channel's phase meter changed. -/
def State.modMeter (s : State) (ch : Channel) (f : Meter → Meter) : State :=
  { s with meters := s.meters.set ch (f (s.meters.get ch)) }

/-- One channel's sequencer changed. -/
def State.modSequencer (s : State) (ch : Channel) (f : Sequencer → Sequencer) : State :=
  { s with sequencers := s.sequencers.set ch (f (s.sequencers.get ch)) }

/-- One channel's controller changed. -/
def State.modController (s : State) (ch : Channel) (f : Controller → Controller) : State :=
  { s with controllers := s.controllers.set ch (f (s.controllers.get ch)) }

/-- One channel's driver changed. -/
def State.modDriver (s : State) (ch : Channel) (f : Driver → Driver) : State :=
  { s with drivers := s.drivers.set ch (f (s.drivers.get ch)) }

/-- An operation carried out for both channels. -/
def State.eachChannel (s : State) (f : State → Channel → State) : State := f (f s .a) .b

/-! ### Quantities read by several blocks -/

/-- The state of a channel (R74). -/
def State.channelState (s : State) (ch : Channel) : ChannelState := (s.sequencers.get ch).state

/-- The current command of a channel (R98). -/
def State.command (s : State) (ch : Channel) : Nat := (s.controllers.get ch).command

/-- Imax_eff: the current limit, halved and truncated while the thermal derate is set (R98, R128). -/
def State.imaxEff (s : State) : Nat :=
  if s.conditions.derate then s.store.params.currentLimit / 2 else s.store.params.currentLimit

/-- The command of a channel in RELEASING: the smaller of the release current and Imax_eff (R75). -/
def State.releaseCommand (s : State) : Nat := min s.store.params.releaseCurrent s.imaxEff

/-- A channel's driver is cut while its trip, the under-voltage cut or the thermal cut is set (section 7.1). -/
def State.driverCut (s : State) (ch : Channel) : Bool :=
  (s.drivers.get ch).trip || s.conditions.underVoltage || s.conditions.thermalCut

/-- The greatest target of a channel: parameter 1 for intake, parameter 2 for exhaust (R50). -/
def State.channelMax (s : State) : Channel → Nat
  | .a => s.store.params.intakeMax
  | .b => s.store.params.exhaustMax

/-- The head offset: 0 for FRONT, 2700 for REAR (R16). -/
def headOffset : Role → Int
  | .front => 0
  | .rear => 2700

/-- The half in which E2 lies: 0 for FRONT, 1 for REAR (R16, R18). -/
def closePairHalf : Role → Half
  | .front => .zero
  | .rear => .one

/-- The nominal edge angles N_k (R16). -/
def nominalAngle : Tooth → Int
  | .e0 => 700
  | .e1 => 1600
  | .e2 => 1960
  | .e3 => 4300
  | .e4 => 6100

/-- The other half of the engine cycle (R10). -/
def Half.other : Half → Half
  | .zero => .one
  | .one => .zero

/-- A half as a number (R14). -/
def Half.toNat : Half → Nat
  | .zero => 0
  | .one => 1

/-- The filter of an angle input. -/
def Filters.get (fs : Filters) : AnglePin → InputFilter
  | .crank => fs.crank
  | .camA => fs.camA
  | .camB => fs.camB

/-- The filters with one input's replaced. -/
def Filters.set (fs : Filters) (pin : AnglePin) (f : InputFilter) : Filters :=
  match pin with
  | .crank => { fs with crank := f }
  | .camA => { fs with camA := f }
  | .camB => { fs with camB := f }

/-- The level of an angle pin: the recognised level, or the other one while a candidate is open (R2). -/
def InputFilter.pinLevel (f : InputFilter) : PinLevel :=
  if f.candidate.isSome then f.level.other else f.level

/-- The cam channel of an angle input: CAMA is channel A, CAMB is channel B (R15). -/
def camChannel : AnglePin → Option Channel
  | .crank => none
  | .camA => some .a
  | .camB => some .b

/-! ### The passage of time

`State.elapse` lets a number of ticks of the time base pass. A command that carries a time stamp lets the ticks up to that
stamp pass, a command that names the end of a timer, a slot or a bit lets the ticks that remain pass, and a step on an empty
queue lets one tick pass. The free-running timers wrap, and the ends they reach are owed until their commands are taken. A
timer that ends once stands at its end until the command that names it is taken (DESIGN CHOICE, log entry 2). -/

/-- A timer that starts again every `period` ticks, after n ticks. -/
def Cyclic.advance (period n : Nat) (c : Cyclic) : Cyclic :=
  { ticks := (c.ticks + n) % period, owed := c.owed + (c.ticks + n) / period }

/-- The ticks that must pass before the earliest end whose command is due: none while one is owed. -/
def Cyclic.toEnd (period : Nat) (c : Cyclic) : Nat := if c.owed = 0 then period - c.ticks else 0

/-- The command of the earliest owed end is taken. -/
def Cyclic.take (c : Cyclic) : Cyclic := { c with owed := c.owed - 1 }

/-- The ticks since a channel's latest period start: channel A's periods begin as the timer passes from 2499 to 0, channel B's
1250 ticks later (R121). -/
def ticksIntoPeriod (ch : Channel) (pwm : Nat) : Nat :=
  match ch with
  | .a => pwm
  | .b => (pwm + 1250) % 2500

/-- The period starts that n ticks bring (R121). -/
def periodStarts (pwm n : Nat) (ch : Channel) : Nat := (ticksIntoPeriod ch pwm + n) / 2500

/-- A timer that counts up to its last tick. -/
def runTimer (last n : Nat) (t : Option Nat) : Option Nat := t.map fun k => min last (k + n)

/-- The ticks that remain until a timer reaches `due`. -/
def ticksLeft (due now : Nat) : Nat := due - now

/-- The timers after n ticks (R1, R119, R121, R124, R133, R149, R178, R80, R126, R145). -/
def Timers.advance (t : Timers) (n : Nat) : Timers where
  timeBase := t.timeBase + BitVec.ofNat 32 n
  pwm := (t.pwm + n) % 2500
  periodsOwed :=
    { a := t.periodsOwed.a + periodStarts t.pwm n .a, b := t.periodsOwed.b + periodStarts t.pwm n .b }
  sinceOn := { a := min 80 (t.sinceOn.a + n), b := min 80 (t.sinceOn.b + n) }
  slot := t.slot.advance 500 n
  slotIndex := (t.slotIndex + (t.slot.ticks + n) / 500) % 10
  status := t.status.map (Cyclic.advance 500000 n)
  pulse := runTimer millisecond n t.pulse
  park := runTimer millisecond n t.park
  blanking := { a := runTimer millisecond n t.blanking.a, b := runTimer millisecond n t.blanking.b }
  bitPhase := (t.bitPhase + n) % 40

/-- How many reads of the line fall in the next n ticks: one at 3 µs (30 ticks) into each bit time of 40 ticks (R145). -/
def bitReads (phase n : Nat) : Nat := (phase + n + 10) / 40 - (phase + 10) / 40

/-- The ticks until the next read of the line, 30 ticks into a bit time (R145). -/
def ticksToRead (phase : Nat) : Nat := (69 - phase) % 40 + 1

/-- k recessive reads by a controller that is not reading a frame: each adds one to the gap count, which saturates at 11, and
sets the dominant run to 0; the read that brings the count to 11 clears the bus-stuck flag (R145, R154). -/
def Link.recessiveReads (l : Link) (k : Nat) : Link :=
  if k = 0 then l
  else
    { l with
      gapCount := min 11 (l.gapCount + k)
      dominantRun := 0
      busStuck := l.busStuck && decide (l.gapCount + k < 11) }

/-- Whether time that passes is read as recessive bits: no frame is being read, and the part sends none. A dominant bit outside
a frame has a command of its own (log entry 2). -/
def Link.quiet (l : Link) : Bool := decide (l.reading = .no) && decide (l.transmitter = .free)

/-- n ticks pass. The line stays recessive while nothing else is reported of it. -/
def State.elapse (s : State) (n : Nat) : State :=
  let k := bitReads s.timers.bitPhase n
  let s := s.modTimers fun t => t.advance n
  if s.link.quiet then s.modLink fun l => l.recessiveReads k else s

/-- The ticks up to a read of the line that gives a dominant bit: a line that was recessive begins the bit now, and the bit
timing resynchronises at that change (R145). The line is taken as recessive while the dominant run is 0, so also at reset, where
the manual gives the line no level (DESIGN CHOICE, log entry 1). -/
def State.ticksToDominant (s : State) : Nat :=
  if s.link.dominantRun = 0 then 30 else ticksToRead s.timers.bitPhase

/-- k dominant reads pass on the timers (R145). -/
def State.passDominant (s : State) (k : Nat) : State :=
  let n := s.ticksToDominant + 40 * (k - 1)
  s.modTimers fun t => { t.advance n with bitPhase := 30 }

/-- The link controller acts at the read of a bit of a frame (R145): the frame's changes to dominant have resynchronised the bit
timing, which therefore stands at a read point, 30 ticks into the bit time. The bits of a frame take no time on the time base
(log entry 8). -/
def State.atBitRead (s : State) (f : Link → Link) : State :=
  (s.modLink f).modTimers fun t => { t with bitPhase := 30 }

/-- Time passes up to the reading t of the time base. -/
def State.elapseTo (s : State) (t : Tick) : State := s.elapse (t - s.timers.timeBase).toNat

/-- A step on an empty queue: one tick of the time base, unless power-on reset holds the part (log entry 2). -/
def State.idle (s : State) : State := if s.supplyLow then s else s.elapse 1

/-- The frame of a meaning: while VDD stands below the reset threshold, power-on reset acts on all of the state and nothing
else does (R174). Otherwise the command has its effect. The supply and the PARK pin are the outside's, and their commands have no such
guard. -/
def act (s : State) (f : State → State) : Host.Outcome State Fault Refusal :=
  .next (if s.supplyLow then s else f s)

end Sys2Proof.Machine
end

