-- ==== Sys2Proof/Machine/Operands.lean ====
section
/-! DEFINITION. How each operand is read: the payload words of the frames the part takes (R164, R165), the codes of the
converter (R136), the parameters by number (R168) and the filter codes (R2). -/

namespace Sys2Proof.Machine

/-! ### Payload words (R164, R165) -/

/-- The mode word of a TARGET frame: exactly 0x0001 is TRACK, any other value PARK. -/
def readMode (w : Word16) : TargetMode := if w = 0x0001 then .track else .park

/-- The state word of an ENGINE frame: exactly 0x0002 is RUNNING, any other value STOPPED. -/
def readEngineState (w : Word16) : EngineState := if w = 0x0002 then .running else .stopped

/-- The own-claim field of STATUS word 5, bits 15..11, limited to 0..30 (R67). -/
def readClaim (w : Word16) : Nat := min 30 (w.toNat / 2048)

/-- The relearn flag of a CLEAR frame, bit 15. -/
def readRelearn (w : Word16) : Bool := w.getLsbD 15

/-- The scope of a CLEAR frame, bits 1..0. -/
inductive Scope where
  | station
  | channelA
  | channelB
  | all
  deriving DecidableEq, Repr

def readScope (w : Word16) : Scope :=
  match w.toNat % 4 with
  | 0 => .station
  | 1 => .channelA
  | 2 => .channelB
  | _ => .all

/-- Whether a scope covers a channel (R94). -/
def Scope.covers : Scope → Channel → Bool
  | .station, _ => false
  | .channelA, .a => true
  | .channelA, .b => false
  | .channelB, .a => false
  | .channelB, .b => true
  | .all, _ => true

/-- Whether a scope covers the station (R22). -/
def Scope.coversStation : Scope → Bool
  | .station => true
  | .channelA => false
  | .channelB => false
  | .all => true

/-! ### Converter codes (R136) -/

/-- IA and IB: mA = code × 3000 / 4096. -/
def scaleCurrent (code : Code12) : Nat := code.toNat * 3000 / 4096

/-- OILP: kPa = (code − 410) × 1000 / 3276, limited to 0..1000. -/
def scalePressure (code : Code12) : Int := limit 0 1000 (divTrunc (((code.toNat : Int) - 410) * 1000) 3276)

/-- VSUP: mV = code × 20000 / 4096. -/
def scaleSupply (code : Code12) : Int := divTrunc ((code.toNat : Int) * 20000) 4096

/-- TDIE: °C = code × 250 / 4096 − 50. -/
def scaleTemperature (code : Code12) : Int := divTrunc ((code.toNat : Int) * 250) 4096 - 50

/-- An OILP code in 205..3890 is in band (R142). -/
def inBand (code : Code12) : Bool := decide (205 ≤ code.toNat) && decide (code.toNat ≤ 3890)

/-! ### Parameters (R168) -/

/-- The range of each parameter (R168). -/
def paramRange : Nat → Option (Nat × Nat)
  | 0 => some (0, 1000)
  | 1 => some (0, 600)
  | 2 => some (0, 600)
  | 3 => some (0, 255)
  | 4 => some (0, 255)
  | 5 => some (1, 100)
  | 6 => some (1, 50)
  | 7 => some (200, 800)
  | 8 => some (200, 1500)
  | 9 => some (200, 2000)
  | 10 => some (50, 600)
  | 11 => some (20, 500)
  | 12 => some (0, 500)
  | 13 => some (1, 50)
  | 14 => some (500, 3000)
  | 15 => some (0, 3)
  | 16 => some (0, 7)
  | 17 => some (0, 7)
  | 18 => some (1, 16)
  | 19 => some (200, 1500)
  | _ => none

/-- The parameter of a number. -/
def Params.get (p : Params) : Nat → Nat
  | 0 => p.overlapLimit
  | 1 => p.intakeMax
  | 2 => p.exhaustMax
  | 3 => p.kp
  | 4 => p.ki
  | 5 => p.slewMax
  | 6 => p.holdWindow
  | 7 => p.nullBase
  | 8 => p.currentLimit
  | 9 => p.coilResistance
  | 10 => p.releasePressure
  | 11 => p.lowOilPressure
  | 12 => p.budgetZero
  | 13 => p.budgetStep
  | 14 => p.overcurrent
  | 15 => p.filterCode
  | 16 => p.st0Source
  | 17 => p.st1Source
  | 18 => p.freshness
  | 19 => p.releaseCurrent
  | _ => 0

/-- The parameters with the one of a number replaced. -/
def Params.set (p : Params) (id v : Nat) : Params :=
  match id with
  | 0 => { p with overlapLimit := v }
  | 1 => { p with intakeMax := v }
  | 2 => { p with exhaustMax := v }
  | 3 => { p with kp := v }
  | 4 => { p with ki := v }
  | 5 => { p with slewMax := v }
  | 6 => { p with holdWindow := v }
  | 7 => { p with nullBase := v }
  | 8 => { p with currentLimit := v }
  | 9 => { p with coilResistance := v }
  | 10 => { p with releasePressure := v }
  | 11 => { p with lowOilPressure := v }
  | 12 => { p with budgetZero := v }
  | 13 => { p with budgetStep := v }
  | 14 => { p with overcurrent := v }
  | 15 => { p with filterCode := v }
  | 16 => { p with st0Source := v }
  | 17 => { p with st1Source := v }
  | 18 => { p with freshness := v }
  | 19 => { p with releaseCurrent := v }
  | _ => p

/-- The sum of the twenty parameters (R171). -/
def Params.sum (p : Params) : Nat := ((List.range 20).map p.get).sum

/-- The configuration check value: that sum modulo 65536 (R171). -/
def Params.check (p : Params) : Word16 := BitVec.ofNat 16 p.sum

/-- The filter time of a filter code, in ticks (R2). -/
def filterTicks : Nat → Nat
  | 0 => 20
  | 1 => 40
  | 2 => 80
  | _ => 160

/-! ### Sets and slots by name -/

/-- Whether a channel fault set holds a kind (R176). -/
def ChannelFaults.has (f : ChannelFaults) : ChannelFault → Bool
  | .camLost => f.camLost
  | .camNoise => f.camNoise
  | .parkOffsetRange => f.parkOffsetRange
  | .lockStuck => f.lockStuck
  | .noReturn => f.noReturn
  | .trackError => f.trackError
  | .overcurrent => f.overcurrent
  | .openCoil => f.openCoil

/-- A channel fault set with a kind made present. -/
def ChannelFaults.add (f : ChannelFaults) : ChannelFault → ChannelFaults
  | .camLost => { f with camLost := true }
  | .camNoise => { f with camNoise := true }
  | .parkOffsetRange => { f with parkOffsetRange := true }
  | .lockStuck => { f with lockStuck := true }
  | .noReturn => { f with noReturn := true }
  | .trackError => { f with trackError := true }
  | .overcurrent => { f with overcurrent := true }
  | .openCoil => { f with openCoil := true }

/-- Whether the station fault set holds a kind. -/
def StationFaults.has (f : StationFaults) : StationFault → Bool
  | .oilpSensor => f.oilpSensor
  | .addressClash => f.addressClash
  | .crankUnstable => f.crankUnstable

/-- The station fault set with a kind made present. -/
def StationFaults.add (f : StationFaults) : StationFault → StationFaults
  | .oilpSensor => { f with oilpSensor := true }
  | .addressClash => { f with addressClash := true }
  | .crankUnstable => { f with crankUnstable := true }

/-- The slot of a name. -/
def Link.slot (l : Link) : SlotName → Slot
  | .status => l.status
  | .faultA => l.faultA
  | .faultB => l.faultB
  | .faultStation => l.faultStation

/-- The link with one slot replaced. -/
def Link.setSlot (l : Link) (k : SlotName) (v : Slot) : Link :=
  match k with
  | .status => { l with status := v }
  | .faultA => { l with faultA := v }
  | .faultB => { l with faultB := v }
  | .faultStation => { l with faultStation := v }

/-- One slot changed. -/
def Link.modSlot (l : Link) (k : SlotName) (f : Slot → Slot) : Link := l.setSlot k (f (l.slot k))

/-- The fault slot of a channel. -/
def faultSlot : Channel → SlotName
  | .a => .faultA
  | .b => .faultB

end Sys2Proof.Machine
end

