-- ==== Sys2Proof/Machine/Flags.lean ====
section
/-! DEFINITION. The conditions and codes the part shows: the run conditions (R76), the state codes, the words of the frames
the part builds (R164, R166), the status lines (R181) and FAULT_N (R177, R178). Each is a function of the state. -/

namespace Sys2Proof.Machine

/-! ### Fault sets and run conditions -/

/-- No kind is present. -/
def ChannelFaults.isEmpty (f : ChannelFaults) : Bool := decide (f = ChannelFaults.empty)

/-- No kind is present. -/
def StationFaults.isEmpty (f : StationFaults) : Bool := decide (f = StationFaults.empty)

/-- The engine state is RUNNING and fresh: its age is 8 or less (R79). -/
def EngineStore.runningFresh (e : EngineStore) : Bool := decide (e.engine = .running) && decide (e.age ≤ 8)

/-- The run conditions of a channel (R76). -/
def State.runConditions (s : State) (ch : Channel) : Bool :=
  decide (s.decoder.crank = .cycleSync) && !s.store.windowOpen && !s.engine.parkRequest && !s.oil.low &&
    s.engine.runningFresh && !s.conditions.underVoltage && !s.conditions.thermalCut &&
    s.faults.station.isEmpty && (s.faults.channel.get ch).isEmpty

/-- A channel is RELEASING or TRACKING. -/
def ChannelState.running : ChannelState → Bool
  | .parked => false
  | .releasing => true
  | .tracking => true
  | .returning => false
  | .fault => false

/-- A channel is PARKED or in FAULT: what RESTART and relearn ask for (R173, R35). -/
def ChannelState.parkedOrFault : ChannelState → Bool
  | .parked => true
  | .releasing => false
  | .tracking => false
  | .returning => false
  | .fault => true

/-! ### Codes (R23, R96, R164) -/

/-- The crank state code. -/
def CrankState.code : CrankState → Nat
  | .stopped => 0
  | .gapSeek => 1
  | .revSync => 2
  | .cycleSync => 3

/-- The channel state code. -/
def ChannelState.code : ChannelState → Nat
  | .parked => 0
  | .releasing => 1
  | .tracking => 2
  | .returning => 3
  | .fault => 4

/-- A bit of a word. -/
def bit (b : Bool) (place : Nat) : Nat := if b then 2 ^ place else 0

/-- A measured phase as a word: two's complement, or the marker 0x8000 when absent (R29, R166). -/
def phaseWord : Option Int → Word16
  | none => 0x8000
  | some p => BitVec.ofInt 16 p

/-- Bits 7..0 of FAULT word 0 for a channel scope (R164). -/
def ChannelFaults.byte (f : ChannelFaults) : Nat :=
  bit f.camLost 0 + bit f.camNoise 1 + bit f.parkOffsetRange 2 + bit f.lockStuck 3 + bit f.noReturn 4 +
    bit f.trackError 5 + bit f.overcurrent 6 + bit f.openCoil 7

/-- Bits 7..0 of FAULT word 0 for the station scope (R164). -/
def StationFaults.byte (f : StationFaults) : Nat :=
  bit f.oilpSensor 0 + bit f.addressClash 1 + bit f.crankUnstable 2

/-- The scope code of a channel in FAULT word 0 (R164). -/
def scopeCode : Channel → Nat
  | .a => 1
  | .b => 2

/-- A frame the part builds: its own address as source, broadcast, destination address 000 (R166). -/
def State.ownFrame (s : State) (cls : BitVec 4) (payload : List Word16) : Frame :=
  { cls := cls, header := { source := s.straps.address, addressed := false, dest := 0 }, payload := payload }

/-- The FAULT frame of a channel's scope: its whole fault set, its phase estimate and its state code (R166). -/
def State.channelFaultFrame (s : State) (ch : Channel) : Frame :=
  s.ownFrame 0
    [BitVec.ofNat 16 (scopeCode ch * 2 ^ 14 + (s.faults.channel.get ch).byte),
     phaseWord (s.meters.get ch).estimate,
     BitVec.ofNat 16 (s.channelState ch).code]

/-- The FAULT frame of the station scope: the station fault set, 0x8000 and the crank state code (R166). -/
def State.stationFaultFrame (s : State) : Frame :=
  s.ownFrame 0
    [BitVec.ofNat 16 s.faults.station.byte, 0x8000, BitVec.ofNat 16 s.decoder.crank.code]

/-- STATUS word 0 (R164). -/
def State.statusWord0 (s : State) : Word16 :=
  BitVec.ofNat 16
    (s.decoder.crank.code * 2 ^ 14 + bit (!s.store.windowOpen) 13 + (s.channelState .a).code * 2 ^ 10 +
      (s.channelState .b).code * 2 ^ 7 + bit (s.controllers.get .a).reached 6 + bit (s.controllers.get .b).reached 5 +
      bit (!s.faults.station.isEmpty) 4 + bit s.link.linkErrors 3 + bit s.oil.limiting 2 + bit s.conditions.derate 1 +
      bit s.conditions.underVoltage 0)

/-- STATUS word 5 (R164): C in bits 15..11, B in bits 10..5, then ROLE, the PARK request echo and the drive-saturated
flags. -/
def State.statusWord5 (s : State) : Word16 :=
  BitVec.ofNat 16
    (s.oil.ownClaim % 32 * 2 ^ 11 + s.oil.budget % 64 * 2 ^ 5 + bit (decide (s.straps.role = .rear)) 4 +
      bit s.engine.parkRequest 3 + bit (s.drivers.get .a).saturated 2 + bit (s.drivers.get .b).saturated 1)

/-- The content of a STATUS frame (R156, R164). -/
def State.statusFrame (s : State) : Frame :=
  s.ownFrame 3
    [s.statusWord0, phaseWord (s.meters.get .a).estimate, BitVec.ofInt 16 (s.target.effective.get .a),
     phaseWord (s.meters.get .b).estimate, BitVec.ofInt 16 (s.target.effective.get .b), s.statusWord5,
     s.store.checkValue]

/-! ### Status lines and FAULT_N -/

/-- The condition of a status-line source code (R181). -/
def State.lineCondition (s : State) : Nat → Bool
  | 1 => decide (s.decoder.crank = .cycleSync)
  | 2 => decide (s.channelState .a = .tracking) && decide (s.channelState .b = .tracking)
  | 3 => decide (s.channelState .a = .returning) || decide (s.channelState .b = .returning)
  | 4 => s.link.linkErrors || s.link.busStuck
  | 5 => s.oil.limiting
  | 6 => s.engine.parkRequest
  | 7 => s.conditions.derate
  | _ => false

/-- ST0 is driven low (R181). -/
def State.st0Low (s : State) : Bool := s.lineCondition s.store.params.st0Source

/-- ST1 is driven low (R181). -/
def State.st1Low (s : State) : Bool := s.lineCondition s.store.params.st1Source

/-- All three fault sets are empty. -/
def Faults.allEmpty (f : Faults) : Bool := f.channel.a.isEmpty && f.channel.b.isEmpty && f.station.isEmpty

/-- FAULT_N is driven low: in level mode while a fault set is non-empty (R177), in pulse mode while the pulse timer runs
(R178). -/
def State.faultNLow (s : State) : Bool :=
  match s.straps.faultLine with
  | .level => !s.faults.allEmpty
  | .pulse => s.timers.pulse.isSome

/-- The station fault set holds OILP_SENSOR (R60, R68). -/
def State.oilpFault (s : State) : Bool := s.faults.station.oilpSensor

end Sys2Proof.Machine
end

