-- ==== Sys2Proof/Machine/FrameCode.lean ====
section
/-! DEFINITION. A frame as bits on the line: the fields in order, the check code, the spacers and the end field (R146, R148),
and the receiver that reads them back and judges them (R147, R148). A bit is true when it is recessive (value 1). -/

namespace Sys2Proof

/-- The n low bits of a number, most significant first. -/
def bitsOf : Nat → Nat → List Bool
  | 0, _ => []
  | n + 1, x => x.testBit n :: bitsOf n x

/-- The number that bits spell, most significant first. -/
def ofBits (bs : List Bool) : Nat := bs.foldl (fun x b => 2 * x + b.toNat) 0

/-- One step of the check code: the feedback is the bit added modulo 2 to the register's top bit, the register shifts left by
one place, and the polynomial 0x1021 is combined in if the feedback is 1 (R148). -/
def checkStep (r : Word16) (b : Bool) : Word16 :=
  if xor b r.msb then (r <<< 1) ^^^ 0x1021#16 else r <<< 1

/-- The check code over bits in transmission order, from a register of 0 (R148). -/
def checkOf (bs : List Bool) : Word16 := bs.foldl checkStep 0#16

/-- The tag: class, then source address (R146). -/
def Frame.tagBits (f : Frame) : List Bool := bitsOf 4 f.cls.toNat ++ bitsOf 3 f.header.source.toNat

/-- The destination and the length: addressed flag, address bits (000 in a broadcast), number of payload words (R146). -/
def Frame.routeBits (f : Frame) : List Bool :=
  f.header.addressed :: bitsOf 3 (if f.header.addressed then f.header.dest.toNat else 0) ++ bitsOf 4 f.payload.length

/-- The payload words, each most significant bit first (R146). -/
def payloadBits : List Word16 → List Bool
  | [] => []
  | w :: ws => bitsOf 16 w.toNat ++ payloadBits ws

/-- The bits the check code covers: tag, destination, length and payload, without start bit and spacers (R148). -/
def Frame.checkedBits (f : Frame) : List Bool := f.tagBits ++ f.routeBits ++ payloadBits f.payload

/-- The counted bits: the start bit (dominant), the covered bits and the check code (R146). -/
def Frame.countedBits (f : Frame) : List Bool :=
  false :: f.checkedBits ++ bitsOf 16 (checkOf f.checkedBits).toNat

/-- One recessive spacer after each eighth counted bit (R146). -/
def withSpacers : List Bool → List Bool
  | b0 :: b1 :: b2 :: b3 :: b4 :: b5 :: b6 :: b7 :: rest =>
    b0 :: b1 :: b2 :: b3 :: b4 :: b5 :: b6 :: b7 :: true :: withSpacers rest
  | bs => bs

/-- The end field: eight recessive bits (R146). -/
def endField : List Bool := List.replicate 8 true

/-- The frame as it is put on the line (R146). -/
def Frame.lineBits (f : Frame) : List Bool := withSpacers f.countedBits ++ endField

/-- What the receiver makes of the bits it has read since the start bit (R147, R148). -/
inductive Verdict where
  /-- The bits end before the frame does. -/
  | incomplete
  /-- A spacer or an end bit read dominant, or an illegal length: the frame ends at the bit of this count. -/
  | aborted (bitsRead : Nat)
  /-- Every framing check passed, and the check code does not match. -/
  | badCheck
  /-- A good frame. -/
  | good (f : Frame)
  deriving DecidableEq, Repr

/-- The bits read end a frame that is discarded (R147, R148). -/
def Verdict.discards : Verdict → Bool
  | .aborted _ => true
  | .badCheck => true
  | .incomplete => false
  | .good _ => false

/-- What reading a number of groups of eight counted bits and a spacer gives. -/
inductive Groups where
  | incomplete
  | badSpacer (bitsRead : Nat)
  | ok (counted rest : List Bool)
  deriving DecidableEq, Repr

/-- Read n groups of eight counted bits, each followed by a spacer that must be recessive (R147); `base` bits have been read
before them. -/
def readGroups (base : Nat) : Nat → List Bool → Groups
  | 0, bs => .ok [] bs
  | n + 1, b0 :: b1 :: b2 :: b3 :: b4 :: b5 :: b6 :: b7 :: spacer :: rest =>
    if spacer then
      match readGroups (base + 9) n rest with
      | .ok counted left => .ok (b0 :: b1 :: b2 :: b3 :: b4 :: b5 :: b6 :: b7 :: counted) left
      | other => other
    else .badSpacer (base + 9)
  | _ + 1, _ => .incomplete

/-- Read the end field: how many bits, from `base` on, up to and with the first dominant one, or none if all eight are
recessive (R147). -/
def readEnd (base : Nat) : Nat → List Bool → Verdict ⊕ Unit
  | 0, _ => .inr ()
  | _ + 1, [] => .inl .incomplete
  | n + 1, b :: rest => if b then readEnd (base + 1) n rest else .inl (.aborted (base + 1))

/-- The payload words of their bits. -/
def payloadOf : Nat → List Bool → List Word16
  | 0, _ => []
  | n + 1, bs => BitVec.ofNat 16 (ofBits (bs.take 16)) :: payloadOf n (bs.drop 16)

/-- The frame that counted header bits (from the start bit) and payload bits spell. In a broadcast the address bits are not
read, and the model's record holds 000 there. -/
def frameOf (head body : List Bool) : Frame where
  cls := BitVec.ofNat 4 (ofBits ((head.drop 1).take 4))
  header :=
    let addressed := (head.drop 8).head?.getD false
    { source := BitVec.ofNat 3 (ofBits ((head.drop 5).take 3))
      addressed := addressed
      dest := if addressed then BitVec.ofNat 3 (ofBits ((head.drop 9).take 3)) else 0 }
  payload := payloadOf (ofBits ((head.drop 12).take 4)) body

/-- The receiver's verdict on the bits read since the start bit (R147, R148). The length field is judged at its fourth bit,
which is the 17th bit read (sixteen counted bits and the spacer after the first eight). -/
def judge (bits : List Bool) : Verdict :=
  match readGroups 0 1 bits with
  | .incomplete => .incomplete
  | .badSpacer n => .aborted n
  | .ok first afterTag =>
    if afterTag.length < 8 then .incomplete
    else
      let route := afterTag.take 8
      let words := ofBits (route.drop 4)
      if 8 < words then .aborted 17
      else
        match readGroups 9 1 afterTag with
        | .incomplete => .incomplete
        | .badSpacer n => .aborted n
        | .ok _ afterHead =>
          match readGroups 18 (2 * (words + 1)) afterHead with
          | .incomplete => .incomplete
          | .badSpacer n => .aborted n
          | .ok body afterCheck =>
            match readEnd (18 + 18 * (words + 1)) 8 afterCheck with
            | .inl v => v
            | .inr _ =>
              let head := first ++ route
              let payload := body.take (16 * words)
              if bitsOf 16 (checkOf (head.drop 1 ++ payload)).toNat = body.drop (16 * words) then
                .good (frameOf head payload)
              else .badCheck

/-- The number of dominant bits at the end of what has been read: the dominant run (R154). -/
def dominantTail (bits : List Bool) : Nat := (bits.reverse.takeWhile fun b => !b).length

/-- What the part reads of its own frame up to and with a bit at which the line differs from what it sends (R159, R160): the
bits it sent, and the other level. -/
def readBack (f : Frame) (at_ : Nat) : List Bool :=
  let bits := f.lineBits
  bits.take at_ ++ [!(bits.getD at_ true)]

/-- A bit of the tag that the part sends recessive: reading it dominant loses arbitration (R159). Bit 0 is the start bit and
the tag is bits 1 to 7. -/
def losesArbitration (f : Frame) (at_ : Nat) : Bool :=
  decide (1 ≤ at_) && decide (at_ ≤ 7) && f.lineBits.getD at_ false

/-- A bit whose wrong reading is a bit error: any bit sent dominant, and any bit sent recessive after the tag (R160). -/
def isBitError (f : Frame) (at_ : Nat) : Bool :=
  decide (at_ < f.lineBits.length) && (!(f.lineBits.getD at_ true) || decide (8 ≤ at_))

/-- Whether a STATUS content carries a channel's reached flag set: bits 6 and 5 of word 0 (R113, R164). -/
def Frame.carriesReached (f : Frame) (ch : Channel) : Bool :=
  match f.payload with
  | w :: _ => w.getLsbD (match ch with | .a => 6 | .b => 5)
  | [] => false

end Sys2Proof
end

