-- ==== Sys2Proof/Machine/Drive.lean ====
section
/-! DEFINITION. The operations that every block's response is built from: the duty (R120), the current command (R75, R99),
a change of channel state (R75, R49, R31), the offer of a frame to a send slot (R155), the latch of a fault (R176), and the
exits from RELEASING and TRACKING (R77, R88, R91). -/

namespace Sys2Proof.Machine

/-! ### Duty and command -/

/-- The duty and the drive-saturated flag of a command, a resistance estimate and a filtered supply (R120). Before the first
VSUP sample there is no filtered supply, no quotient is formed and the duty is 0 (R130; log entry 4). -/
def dutyOf (command rEst : Nat) (cut : Bool) (supply : Option Int) : Nat × Bool :=
  if command = 0 ∨ cut then (0, false)
  else
    match supply with
    | none => (0, false)
    | some v =>
      let q := command * rEst * 10 / v.toNat
      if 1000 < q then (1000, true) else (q, false)

/-- The duty of a channel computed anew (R120). A duty that becomes 0 turns the output off at once (R121). -/
def State.computeDuty (s : State) (ch : Channel) : State :=
  let d := dutyOf (s.command ch) (s.drivers.get ch).rEst (s.driverCut ch) s.sense.supply
  s.modDriver ch fun drv =>
    { drv with duty := d.1, saturated := d.2, output := drv.output && decide (d.1 ≠ 0) }

/-- The open-coil blanking of a channel starts when its command rises from below 200 mA to 200 mA or more (R126). -/
def State.startBlanking (s : State) (ch : Channel) : State :=
  s.modTimers fun t => { t with blanking := t.blanking.set ch (some 0) }

/-- A new current command of a channel, handed to its driver (R99, R104, R120). -/
def State.setCommand (s : State) (ch : Channel) (i : Nat) : State :=
  let old := s.command ch
  let s := s.modController ch fun c => { c with command := i }
  let s := if old < 200 ∧ 200 ≤ i then s.startBlanking ch else s
  s.computeDuty ch

/-! ### Channel state -/

/-- A change of a channel's state, with what it does at the same event elsewhere: leaving PARKED clears the park-watch flag
(R31), leaving TRACKING sets the effective target to 0 (R49), and entering PARKED, RETURNING or FAULT makes the command 0
(R75). The command of RELEASING and of TRACKING is set by the rule that enters them. -/
def State.setChannelState (s : State) (ch : Channel) (new : ChannelState) : State :=
  let old := s.channelState ch
  let s := s.modSequencer ch fun q => { q with state := new }
  let s := if old = .parked ∧ new ≠ .parked then s.modMeter ch fun m => { m with parkWatch := false } else s
  let s := if old = .tracking ∧ new ≠ .tracking then
      s.modTarget fun t => { t with effective := t.effective.set ch 0 } else s
  match new with
  | .parked => s.setCommand ch 0
  | .releasing => s
  | .tracking => s
  | .returning => s.setCommand ch 0
  | .fault => s.setCommand ch 0

/-- Entry to RETURNING (R88). Out of CYCLE_SYNC the channel goes on to PARKED at once (R91). -/
def State.enterReturning (s : State) (ch : Channel) : State :=
  let s := s.setChannelState ch .returning
  let s := s.modSequencer ch fun q => { q with returnCount := 0, returnRun := 0 }
  if s.decoder.crank = .cycleSync then s else s.setChannelState ch .parked

/-- A channel in RELEASING or TRACKING goes to RETURNING; any other is left as it is (R77, R86, R87). -/
def State.exitRunning (s : State) (ch : Channel) : State :=
  if (s.channelState ch).running then s.enterReturning ch else s

/-- Both channels' response to an event that makes a run condition false, other than a channel's own fault (R77). -/
def State.returnRunning (s : State) : State := s.eachChannel State.exitRunning

/-! ### Send slots (R155) -/

/-- A content in a slot: it replaces the old one, whose failed attempts it keeps, and it is not the frame on the line. -/
def Slot.queue (sl : Slot) (f : Frame) : Slot :=
  { content := some f, onLine := false, attempts := if sl.content.isNone then 0 else sl.attempts }

/-- A content offered to a slot; under the transmit silence it is refused (R153, R155). -/
def State.offer (s : State) (k : SlotName) (f : Frame) : State :=
  if s.link.silence then s else s.modLink fun l => l.modSlot k fun sl => sl.queue f

/-- The STATUS assembly queues a STATUS frame (R156). -/
def State.queueStatus (s : State) : State := s.offer .status s.statusFrame

/-! ### Fault latches (R176) -/

/-- In pulse mode a new latch starts the pulse timer from 0 (R178). In level mode there is no pulse timer. -/
def State.startPulse (s : State) : State :=
  match s.straps.faultLine with
  | .level => s
  | .pulse => s.modTimers fun t => { t with pulse := some 0 }

/-- The latch of a channel fault kind (R176, R92). A kind already present changes nothing. A new kind enters the set and
takes the channel to FAULT at the same event, the FAULT frame of the scope is offered, and FAULT_N acts. -/
def State.latchChannel (s : State) (ch : Channel) (k : ChannelFault) : State :=
  if (s.faults.channel.get ch).has k then s
  else
    let s := s.modFaults fun f => { f with channel := f.channel.set ch ((f.channel.get ch).add k) }
    let s := s.setChannelState ch .fault
    let s := s.offer (faultSlot ch) (s.channelFaultFrame ch)
    s.startPulse

/-- The oil budget unit's response to a new latch of OILP_SENSOR (R62). -/
def OilUnit.sensorFault (o : OilUnit) : OilUnit :=
  { o with ready := false, readyRun := 0, lowRun := 0, budget := 0, step := 0, limiting := decide (0 < o.demand) }

/-- The latch of a station fault kind (R176). A kind already present changes nothing. A new kind enters the set, the FAULT
frame is offered, FAULT_N acts, the oil budget unit responds to OILP_SENSOR (R62), and the run condition "station fault set
empty" has become false for both channels (R77). -/
def State.latchStation (s : State) (k : StationFault) : State :=
  if s.faults.station.has k then s
  else
    let s := s.modFaults fun f => { f with station := f.station.add k }
    let s := s.offer .faultStation s.stationFaultFrame
    let s := s.startPulse
    let s := match k with
      | .oilpSensor => s.modOil OilUnit.sensorFault
      | .addressClash => s
      | .crankUnstable => s
    s.returnRunning

end Sys2Proof.Machine
end

