-- ==== Sys2Proof/Machine/Targets.lean ====
section
/-! DEFINITION. The target unit (chapter 3): TARGET arrival, the overlap guard, transfer, age and staleness at the cycle
reference, the sync events, the effective target and its ramp. -/

namespace Sys2Proof.Machine

/-- TARGET arrival at the unit (R44, R45): only an addressed frame is taken. It replaces the pending record and sets the
target age to 0. -/
def TargetUnit.arrival (t : TargetUnit) (addressed : Bool) (mode intake exhaust : Word16) : TargetUnit :=
  if addressed then
    { t with pendingSlot := some { mode := readMode mode, intake := intake, exhaust := exhaust }, age := 0 }
  else t

/-- The overlap guard (R46). -/
def overlapGuard (l rI rE : Int) : Pair Int :=
  if l < rI then { a := l, b := 0 }
  else if l < rI + rE then { a := rI, b := l - rI }
  else { a := rI, b := rE }

/-- The target pair a pending record gives: limited to the channels' ranges and guarded for TRACK, 0 and 0 for PARK (R47). -/
def Request.targets (r : Request) (p : Params) : Pair Int :=
  match r.mode with
  | .track =>
    overlapGuard p.overlapLimit (limit 0 p.intakeMax r.intake.toNat) (limit 0 p.exhaustMax r.exhaust.toNat)
  | .park => .both 0

/-- A new active pair; move-open sets for each channel whose active target changes (R47, R55). -/
def TargetUnit.bringIn (t : TargetUnit) (mode : TargetMode) (active : Pair Int) : TargetUnit :=
  { t with
    mode := mode
    active := active
    moveOpen :=
      { a := t.moveOpen.a || decide (active.a ≠ t.active.a), b := t.moveOpen.b || decide (active.b ≠ t.active.b) } }

/-- Step 1 of R47: the pending record, if there is one, is brought into force and the slot is emptied. -/
def TargetUnit.transfer (t : TargetUnit) (p : Params) : TargetUnit :=
  match t.pendingSlot with
  | none => t
  | some r => { t.bringIn r.mode (r.targets p) with pendingSlot := none }

/-- Step 2 of R47. -/
def TargetUnit.grow (t : TargetUnit) : TargetUnit := { t with age := bump 255 t.age }

/-- The pair is stale: its age exceeds the target freshness limit and its mode is TRACK (R47). -/
def TargetUnit.isStale (t : TargetUnit) (p : Params) : Bool :=
  decide (p.freshness < t.age) && decide (t.mode = .track)

/-- Step 3 of R47. -/
def TargetUnit.expire (t : TargetUnit) (p : Params) : TargetUnit :=
  if t.isStale p then t.bringIn .park (.both 0) else t

/-- Whether R47 publishes "park commanded": step 1 or step 3 changes the mode from TRACK to PARK. -/
def TargetUnit.parkCommanded (t : TargetUnit) (p : Params) : Bool :=
  let t1 := t.transfer p
  (decide (t.mode = .track) && decide (t1.mode = .park)) || t1.grow.isStale p

/-- The target unit takes the cycle reference (R47): transfer, age, staleness, and then "park commanded", to which both
sequencers respond (R86, R87). -/
def State.targetCycleReference (s : State) : State :=
  let p := s.store.params
  let parkCommanded := s.target.parkCommanded p
  let s := s.modTarget fun t => ((t.transfer p).grow).expire p
  if parkCommanded then s.returnRunning else s

/-- The unit's response to entry to CYCLE_SYNC and to sync loss (R48). -/
def TargetUnit.syncReset (t : TargetUnit) : TargetUnit :=
  { t with pendingSlot := none, age := 255, mode := .park, active := .both 0, moveOpen := .both false }

/-- The effective target at entry to TRACKING: the measured phase limited to 0..M (R50). -/
def State.entryTarget (s : State) (ch : Channel) (phase : Int) : Int :=
  let room : Int := (s.store.params.overlapLimit : Int) - s.target.effective.get (otherChannel ch)
  limit 0 (min (s.channelMax ch : Int) room) phase

/-- One ramp step (R51): a is the active target, f the effective target, g the other channel's effective target, n the step
in force and l the overlap limit. -/
def rampStep (a f g n l : Int) : Int :=
  if f < a then min (f + n) (min a (l - g))
  else if a < f then max (f - n) a
  else f

/-- The effective target of a channel after the ramp of R51. -/
def State.rampedTarget (s : State) (ch : Channel) : Int :=
  rampStep (s.target.active.get ch) (s.target.effective.get ch) (s.target.effective.get (otherChannel ch))
    s.oil.step s.store.params.overlapLimit

/-- The ramp is run for a channel (R51). -/
def State.ramp (s : State) (ch : Channel) : State :=
  let f := s.rampedTarget ch
  s.modTarget fun t => { t with effective := t.effective.set ch f }

/-- Both targets of a channel are below 30 (R54). -/
def State.targetAtPark (s : State) (ch : Channel) : Bool :=
  decide (s.target.active.get ch < 30) && decide (s.target.effective.get ch < 30)

end Sys2Proof.Machine
end

