-- ==== Sys2Proof/Machine/OilBudget.lean ====
section
/-! DEFINITION. The oil budget unit (chapter 4): the oil conditions, the claims, the peer table, and the budget and step at
the cycle reference. -/

namespace Sys2Proof.Machine

/-- Step 1 of R60: the runs on a pressure. -/
def OilUnit.countRuns (o : OilUnit) (p : Params) (pressure : Int) : OilUnit :=
  { o with
    readyRun := if (p.releasePressure : Int) ≤ pressure then bump 3 o.readyRun else 0
    lowRun := if pressure < (p.lowOilPressure : Int) then bump 2 o.lowRun else 0 }

/-- Step 2 of R60: the conditions from the runs, first oil-low and then oil-ready. -/
def OilUnit.setConditions (o : OilUnit) : OilUnit :=
  let o := if o.lowRun = 2 then { o with low := true, ready := false } else o
  if o.readyRun = 3 then { o with ready := true, low := false } else o

/-- The evaluation of R60 on the filtered pressure in force. It is not carried out while the station fault set holds
OILP_SENSOR (R60), nor before the first OILP sample, when there is no pressure (log entry 4). -/
def State.evaluatedOil (s : State) : OilUnit :=
  match s.sense.pressure with
  | none => s.oil
  | some pressure =>
    if s.oilpFault then s.oil else (s.oil.countRuns s.store.params pressure).setConditions

/-- The evaluation of R60 makes oil-low true (R61). -/
def State.oilLowRises (s : State) : Bool := !s.oil.low && s.evaluatedOil.low

/-- The oil conditions evaluated (R60), without what they publish. -/
def State.evaluateOil (s : State) : State :=
  let o := s.evaluatedOil
  s.modOil fun _ => o

/-- The oil conditions at the cycle reference (R60). "Oil low" is published when oil-low changes from false to true, and
both sequencers respond (R61, R77). -/
def State.oilConditions (s : State) : State :=
  if s.oilLowRises then s.evaluateOil.returnRunning else s.evaluateOil

/-- The claim of a channel (R64). -/
def channelClaim (state : ChannelState) (lastError : Option Int) : Nat :=
  match state with
  | .tracking =>
    match lastError with
    | some e => min 15 (e.natAbs / 40)
    | none => 0
  | .releasing => 8
  | .parked => 0
  | .returning => 0
  | .fault => 0

/-- The own claim C: the claims of both channels (R65). -/
def State.ownClaim (s : State) : Nat :=
  channelClaim (s.channelState .a) (s.controllers.get .a).lastError +
    channelClaim (s.channelState .b) (s.controllers.get .b).lastError

/-- Step 1 of R68: every entry ages by one, and those whose age is now above 16 are removed. -/
def agePeers (ps : List PeerEntry) : List PeerEntry :=
  (ps.map fun e => { e with age := e.age + 1 }).filter fun e => decide (e.age ≤ 16)

/-- The claims of the entries whose age is 3 or less (R68, step 3). -/
def freshClaims (ps : List PeerEntry) : Nat := ((ps.filter fun e => decide (e.age ≤ 3)).map PeerEntry.claim).sum

/-- The budget B from a pressure (R68, step 4). -/
def budgetOf (p : Params) (pressure : Int) : Nat :=
  (limit 0 60 (divTrunc (pressure - (p.budgetZero : Int)) (p.budgetStep : Int))).toNat

/-- The budget in force at a cycle reference: 0 while the station fault set holds OILP_SENSOR (R68), and 0 before the first
OILP sample, as it was at reset (log entry 4). -/
def State.budgetNow (s : State) : Nat :=
  match s.sense.pressure with
  | none => 0
  | some pressure => if s.oilpFault then 0 else budgetOf s.store.params pressure

/-- The step from slew max, budget and total demand (R68, step 5). -/
def stepOf (slewMax budget demand : Nat) : Nat :=
  if budget = 0 then 0
  else if demand ≤ budget then slewMax
  else max 1 (slewMax * budget / demand)

/-- The budget computation at the cycle reference (R68). -/
def State.budgetCompute (s : State) : State :=
  let peers := agePeers s.oil.peers
  let own := s.ownClaim
  let demand := own + freshClaims peers
  let budget := s.budgetNow
  s.modOil fun o =>
    { o with
      peers := peers
      ownClaim := own
      demand := demand
      budget := budget
      step := stepOf s.store.params.slewMax budget demand
      limiting := decide (budget < demand) }

/-- The oil budget unit takes the cycle reference (R59, R60, R68): it evaluates the conditions and forms its budget from the
states the channels have then, and the sequencers respond to "oil low" after it (R61, R65). -/
def State.oilCycleReference (s : State) : State :=
  let u := s.evaluateOil.budgetCompute
  if s.oilLowRises then u.returnRunning else u

/-- The table with the entry of an address written: rewritten in place, or created in the list's order (R66, R67). -/
def writePeer (a : Address) (claim : Nat) : List PeerEntry → List PeerEntry
  | [] => [{ address := a, claim := claim, age := 0 }]
  | e :: es =>
    if a.toNat < e.address.toNat then { address := a, claim := claim, age := 0 } :: e :: es
    else if a = e.address then { address := a, claim := claim, age := 0 } :: es
    else e :: writePeer a claim es

/-- STATUS arrival at the unit (R67). -/
def OilUnit.statusArrival (o : OilUnit) (a : Address) (word5 : Word16) : OilUnit :=
  { o with peers := writePeer a (readClaim word5) o.peers }

/-- Entry to CYCLE_SYNC: every entry becomes stale (R69). -/
def OilUnit.syncGained (o : OilUnit) : OilUnit := { o with peers := o.peers.map fun e => { e with age := 4 } }

/-- Sync loss: C and T become 0 and the flag clears (R70). -/
def OilUnit.syncLost (o : OilUnit) : OilUnit := { o with ownClaim := 0, demand := 0, limiting := false }

end Sys2Proof.Machine
end

