-- ==== Sys2Proof/Machine/Control.lean ====
section
/-! DEFINITION. The position controllers (chapter 6): the control update in its seven steps, null learning, the reached flag
and the track error. -/

namespace Sys2Proof.Machine

/-- The control error (R101). -/
def controlError (effective phase : Int) : Int := limit (-1000) 1000 (effective - phase)

/-- The integrator candidate X′ (R102). -/
def integratorCandidate (ki x e : Int) : Int := limit (-300) 300 (x + divTrunc (ki * e) 64)

/-- The proportional term (R102). -/
def proportional (kp e : Int) : Int := divTrunc (kp * e) 16

/-- The integrator and the command that steps 2 and 3 of an update give (R102, R103). -/
def piOutput (kp ki learnedNull x e : Int) (imax : Nat) : Int × Nat :=
  let x' := integratorCandidate ki x e
  let i' := learnedNull + proportional kp e + x'
  if (imax < i' ∧ 0 < e) ∨ (i' < 0 ∧ e < 0) then
    (x, (limit 0 imax (learnedNull + proportional kp e + x)).toNat)
  else (x', (limit 0 imax i').toNat)

/-- The channel is settled on its final target: the effective target equals the active target and the error lies within the
hold window (R107, R112). -/
def State.settled (s : State) (ch : Channel) (e : Int) : Bool :=
  decide (s.target.effective.get ch = s.target.active.get ch) && decide (e.natAbs ≤ s.store.params.holdWindow)

/-- The reached test (R112): with move-open set and the channel settled, move-open clears and the reached flag sets. -/
def State.reachedTest (s : State) (ch : Channel) (e : Int) : State :=
  if s.target.moveOpen.get ch && s.settled ch e then
    (s.modTarget fun t => { t with moveOpen := t.moveOpen.set ch false }).modController ch
      fun c => { c with reached := true }
  else s

/-- The null transfer (R108). -/
def Controller.nullTransfer (c : Controller) : Controller :=
  let n := limit 200 800 (c.learnedNull + divTrunc c.integrator 8)
  { c with learnedNull := n, integrator := c.integrator - (n - c.learnedNull) }

/-- The stationary count of an update (R107). When the increment brings it to 40 the null transfer is carried out and the
count becomes 0. -/
def Controller.stationaryUpdate (c : Controller) (settled : Bool) : Controller :=
  if settled then
    if 40 ≤ c.stationary + 1 then { c.nullTransfer with stationary := 0 }
    else { c with stationary := c.stationary + 1 }
  else { c with stationary := 0 }

/-- The track-error count of an update (R114). When the increment brings it to 40, TRACK_ERROR latches. -/
def State.trackErrorUpdate (s : State) (ch : Channel) (e : Int) : State :=
  if 100 < e.natAbs then
    let n := bump 40 (s.controllers.get ch).trackErrors
    let s := s.modController ch fun c => { c with trackErrors := n }
    if n = 40 then s.latchChannel ch .trackError else s
  else s.modController ch fun c => { c with trackErrors := 0 }

/-- The control update of a channel in TRACKING, after the ramp for the same event (R100). -/
def State.controlUpdate (s : State) (ch : Channel) (phase : Int) : State :=
  let p := s.store.params
  let c := s.controllers.get ch
  let e := controlError (s.target.effective.get ch) phase
  let out := piOutput p.kp p.ki c.learnedNull c.integrator e s.imaxEff
  let s := s.modController ch fun c => { c with integrator := out.1 }
  let s := s.setCommand ch out.2
  let s := s.modController ch fun c => { c with lastError := some e }
  let s := s.reachedTest ch e
  let settled := s.settled ch e
  let s := s.modController ch fun c => c.stationaryUpdate settled
  s.trackErrorUpdate ch e

end Sys2Proof.Machine
end

