-- ==== Sys2Proof/Machine/Channels.lean ====
section
/-! DEFINITION. The channel sequencers (chapter 5): the engine-state store, release start, success and timeout, return
supervision, and the sequencer block's actions at the cycle reference; and the response of a channel to "phase measured". -/

namespace Sys2Proof.Machine

/-! ### Engine state (R78, R79) -/

/-- ENGINE arrival: the value read, age 0, and a value other than RUNNING makes a run condition false (R78). -/
def State.engineArrival (s : State) (code : Word16) : State :=
  let s := s.modEngine fun e => { e with engine := readEngineState code, age := 0 }
  match readEngineState code with
  | .running => s
  | .stopped => s.returnRunning

/-- The engine age at the cycle reference, and the exits it causes on reaching 9 with RUNNING (R79). -/
def State.engineAging (s : State) : State :=
  let age := bump 255 s.engine.age
  let s := s.modEngine fun e => { e with age := age }
  if age = 9 ∧ s.engine.engine = .running then s.returnRunning else s

/-! ### Release (R81 to R86) -/

/-- Every condition of R81 holds for the channel. -/
def State.mayRelease (s : State) (ch : Channel) : Bool :=
  s.runConditions ch && s.oil.ready && (s.meters.get ch).parkOffset.isSome && decide (s.target.mode = .track) &&
    decide (30 ≤ s.target.active.get ch) && decide (0 < (s.sequencers.get ch).attempts) &&
    decide ((s.sequencers.get ch).retryHold = 0)

/-- Entry to RELEASING (R81, R75). -/
def State.startRelease (s : State) (ch : Channel) : State :=
  let s := s.setChannelState ch .releasing
  let s := s.modSequencer ch fun q => { q with releaseCount := 0, successRun := 0 }
  s.setCommand ch s.releaseCommand

/-- The start of TRACKING at the controller (R115). -/
def Controller.startTracking (c : Controller) : Controller :=
  { c with integrator := 0, stationary := 0, trackErrors := 0, lastError := none }

/-- The command at entry to TRACKING: the learned null limited to 0..Imax_eff (R75, R115). -/
def State.entryCommand (s : State) (ch : Channel) : Nat :=
  (limit 0 s.imaxEff (s.controllers.get ch).learnedNull).toNat

/-- Entry to TRACKING from RELEASING at the event that carries the phase (R83, R50, R115). -/
def State.enterTracking (s : State) (ch : Channel) (phase : Int) : State :=
  let f := s.entryTarget ch phase
  let s := s.setChannelState ch .tracking
  let s := s.modSequencer ch fun q => { q with attempts := 3, retryHold := 0 }
  let s := s.modTarget fun t => { t with effective := t.effective.set ch f }
  let s := s.modController ch Controller.startTracking
  s.setCommand ch (s.entryCommand ch)

/-- "Phase measured" in RELEASING (R82): the success run, and entry to TRACKING when it reaches 2. -/
def State.releaseProgress (s : State) (ch : Channel) (phase : Int) : State :=
  let run := if 30 ≤ phase then bump 2 (s.sequencers.get ch).successRun else 0
  let s := s.modSequencer ch fun q => { q with successRun := run }
  if run = 2 then s.enterTracking ch phase else s

/-- The release count of a channel in RELEASING at the cycle reference, and the timeout when it reaches 8 (R84). -/
def State.releaseTick (s : State) (ch : Channel) : State :=
  let n := bump 8 (s.sequencers.get ch).releaseCount
  let s := s.modSequencer ch fun q => { q with releaseCount := n }
  if n = 8 then
    let s := s.modSequencer ch fun q => { q with attempts := q.attempts - 1, retryHold := 2 }
    if (s.sequencers.get ch).attempts = 0 then s.latchChannel ch .lockStuck else s.setChannelState ch .parked
  else s

/-- The retry hold of a PARKED channel at the cycle reference (R85). -/
def State.retryTick (s : State) (ch : Channel) : State :=
  s.modSequencer ch fun q => { q with retryHold := q.retryHold - 1 }

/-! ### Return (R88 to R91) -/

/-- An edge phase within 2.0° of park (R89). -/
def nearPark (phase : Int) : Bool := decide (-20 ≤ phase) && decide (phase ≤ 20)

/-- "Phase measured" in RETURNING (R89): the return run, and PARKED when it reaches 3. -/
def State.returnProgress (s : State) (ch : Channel) (phase : Int) : State :=
  let run := if nearPark phase then bump 3 (s.sequencers.get ch).returnRun else 0
  let s := s.modSequencer ch fun q => { q with returnRun := run }
  if run = 3 then s.setChannelState ch .parked else s

/-- The return count of a channel in RETURNING at the cycle reference, and NO_RETURN when it reaches 60 (R90). -/
def State.returnTick (s : State) (ch : Channel) : State :=
  let n := bump 60 (s.sequencers.get ch).returnCount
  let s := s.modSequencer ch fun q => { q with returnCount := n }
  if n = 60 then s.latchChannel ch .noReturn else s

/-- A channel's response to "sync lost" (R91): RELEASING, TRACKING and RETURNING pass to PARKED. The decoder has left
CYCLE_SYNC before it publishes the event. -/
def State.channelSyncLost (s : State) (ch : Channel) : State :=
  match s.channelState ch with
  | .parked => s
  | .releasing => s.enterReturning ch
  | .tracking => s.enterReturning ch
  | .returning => s.setChannelState ch .parked
  | .fault => s

/-! ### The block's events -/

/-- One channel's retry hold, release count and return count at the cycle reference, each in the state it belongs to and in
this order (R95). -/
def State.sequencerTick (s : State) (ch : Channel) : State :=
  let s := if s.channelState ch = .parked ∧ 0 < (s.sequencers.get ch).retryHold then s.retryTick ch else s
  let s := if s.channelState ch = .releasing then s.releaseTick ch else s
  if s.channelState ch = .returning then s.returnTick ch else s

/-- The sequencer block takes the cycle reference (R95). -/
def State.sequencerCycleReference (s : State) : State := s.engineAging.eachChannel State.sequencerTick

/-- "Phase measured" in TRACKING (R51, R54, R100): the ramp, then either "target at park" or the control update. -/
def State.trackingEvent (s : State) (ch : Channel) (phase : Int) : State :=
  let s := s.ramp ch
  if s.targetAtPark ch then s.enterReturning ch else s.controlUpdate ch phase

/-- A channel's response to "phase measured", by the state that the event finds (section 5.11). -/
def State.phaseMeasured (s : State) (ch : Channel) (phase : Int) : State :=
  match s.channelState ch with
  | .parked => if s.mayRelease ch then s.startRelease ch else s
  | .releasing => s.releaseProgress ch phase
  | .tracking => s.trackingEvent ch phase
  | .returning => s.returnProgress ch phase
  | .fault => s

/-- A CLEAR covering the channel at its sequencer (R94): attempts-left 3, retry hold 0, and FAULT becomes PARKED. -/
def State.sequencerClear (s : State) (ch : Channel) : State :=
  let s := s.modSequencer ch fun q => { q with attempts := 3, retryHold := 0 }
  if s.channelState ch = .fault then s.setChannelState ch .parked else s

end Sys2Proof.Machine
end

