-- ==== Sys2Proof/Machine/Meters.lean ====
section
/-! DEFINITION. The phase meters (chapter 2): edge assignment, edge phase and phase estimate, the ring, park learning, cam
noise and cam loss. -/

namespace Sys2Proof.Machine

/-! ### Assignment and phase (R26 to R29) -/

/-- The sign of phase against crank angle: an intake edge comes earlier as phase grows, an exhaust edge later (R26, R28). -/
def phaseSign : Channel → Int
  | .a => -1
  | .b => 1

/-- The expected cycle angle of a tooth (R26). An unacquired park offset and an absent estimate count as 0. -/
def Meter.expectedAngle (m : Meter) (ch : Channel) (role : Role) (k : Tooth) : Int :=
  modCycle
    (nominalAngle k + headOffset role + m.parkOffset.getD 0 + m.corr.get k + phaseSign ch * m.estimate.getD 0)

/-- The distance d_k of an edge from a tooth's expected angle (R26). -/
def Meter.distance (m : Meter) (ch : Channel) (role : Role) (angle : Nat) (k : Tooth) : Int :=
  wrapAngle ((angle : Int) - m.expectedAngle ch role k)

/-- A tooth matches when its distance lies in −180..180 (R26). -/
def Meter.isMatch (m : Meter) (ch : Channel) (role : Role) (angle : Nat) (k : Tooth) : Bool :=
  decide ((m.distance ch role angle k).natAbs ≤ 180)

/-- The better of the tooth found so far and the next: the smaller magnitude of distance, and the lower number at equal
magnitudes (R26). -/
def Meter.better (m : Meter) (ch : Channel) (role : Role) (angle : Nat) (found : Option Tooth) (k : Tooth) :
    Option Tooth :=
  if m.isMatch ch role angle k then
    match found with
    | none => some k
    | some j =>
      if (m.distance ch role angle k).natAbs < (m.distance ch role angle j).natAbs then some k else some j
  else found

/-- The tooth an edge is assigned to, if one matches (R26). -/
def Meter.assign (m : Meter) (ch : Channel) (role : Role) (angle : Nat) : Option Tooth :=
  [Tooth.e0, .e1, .e2, .e3, .e4].foldl (m.better ch role angle) none

/-- The raw deviation of an edge from its tooth (R28). -/
def rawDeviation (role : Role) (angle : Nat) (k : Tooth) : Int :=
  wrapAngle ((angle : Int) - nominalAngle k - headOffset role)

/-- The edge phase from a raw deviation (R28). -/
def Meter.edgePhase (m : Meter) (ch : Channel) (k : Tooth) (raw : Int) : Int :=
  wrapAngle (phaseSign ch * (raw - m.parkOffset.getD 0 - m.corr.get k))

/-- A stray or a cam glitch notice: the count increments, saturating at 255 (R27, R36). -/
def Meter.countStray (m : Meter) : Meter := { m with strayCount := bump 255 m.strayCount }

/-- The record and the estimate of an assigned edge (R28, R29). -/
def Meter.record (m : Meter) (ch : Channel) (k : Tooth) (cycle : Word16) (raw : Int) : Meter :=
  { m with
    ring := m.ring.set k { cycle := cycle, raw := raw, valid := true }
    estimate := some (m.edgePhase ch k raw) }

/-- An edge with a cycle angle (R26 to R29): a stray, or an assigned edge that publishes "phase measured". -/
def State.measureEdge (s : State) (ch : Channel) (angle : Nat) : State :=
  let m := s.meters.get ch
  match m.assign ch s.straps.role angle with
  | none => s.modMeter ch Meter.countStray
  | some k =>
    if (m.ring.get k).valid then s.modMeter ch Meter.countStray
    else
      let raw := rawDeviation s.straps.role angle k
      let s := s.modMeter ch fun m => m.record ch k s.decoder.cycleNumber raw
      s.phaseMeasured ch (m.edgePhase ch k raw)

/-- "Cam edge captured" at the meter (R25): the edge is seen, the missing-edge count is 0, and an edge with a cycle angle is
measured. -/
def State.captureEdge (s : State) (ch : Channel) (angle : Option Nat) : State :=
  let s := s.modMeter ch fun m => { m with edgeSeen := true, missing := 0 }
  match angle with
  | none => s
  | some a => s.measureEdge ch a

/-! ### Park learning (R31 to R35) -/

/-- A record is valid and of the cycle just ended (R32). -/
def RingRecord.ofCycle (r : RingRecord) (cycle : Word16) : Bool := r.valid && decide (r.cycle = cycle)

/-- All five records are valid and carry the number of the cycle just ended (R32). -/
def Meter.ringComplete (m : Meter) (ended : Word16) : Bool :=
  m.ring.e0.ofCycle ended && m.ring.e1.ofCycle ended && m.ring.e2.ofCycle ended && m.ring.e3.ofCycle ended &&
    m.ring.e4.ofCycle ended

/-- The cycle just ended teaches (R32). The decoder's cycle number is the new one. -/
def State.teaches (s : State) (ch : Channel) : Bool :=
  let m := s.meters.get ch
  m.parkWatch && decide (s.channelState ch = .parked) && m.ringComplete (s.decoder.cycleNumber - 1) &&
    decide (m.strayCount = 0)

/-- The mean deviation of the five teeth, truncated toward zero (R32). -/
def Meter.meanDeviation (m : Meter) : Int :=
  divTrunc (m.ring.e0.raw + m.ring.e1.raw + m.ring.e2.raw + m.ring.e3.raw + m.ring.e4.raw) 5

/-- Acquisition (R33) or one step (R34) of the park offset and of the tooth corrections. -/
def Meter.learn (m : Meter) (mean : Int) : Meter :=
  match m.parkOffset with
  | none =>
    { m with parkOffset := some mean, corr := m.ring.map fun r => limit (-30) 30 (r.raw - mean) }
  | some offset =>
    { m with
      parkOffset := some (stepToward 1 mean offset)
      corr := m.corr.map2 (fun c r => limit (-30) 30 (stepToward 1 (r.raw - mean) c)) m.ring }

/-- Park learning at the cycle reference (R32 to R34). -/
def State.parkLearning (s : State) (ch : Channel) : State :=
  if s.teaches ch then
    let mean := (s.meters.get ch).meanDeviation
    if -100 ≤ mean ∧ mean ≤ 100 then s.modMeter ch fun m => m.learn mean
    else s.latchChannel ch .parkOffsetRange
  else s

/-- The park-watch flag at the cycle reference (R31). -/
def State.watchPark (s : State) (ch : Channel) : State :=
  let parked := decide (s.channelState ch = .parked)
  s.modMeter ch fun m => { m with parkWatch := parked }

/-- The relearn of a CLEAR (R35). -/
def Meter.relearn (m : Meter) : Meter :=
  { m with parkOffset := none, corr := { e0 := 0, e1 := 0, e2 := 0, e3 := 0, e4 := 0 } }

/-! ### Noise, the ring, cam loss (R30, R36 to R40) -/

/-- The noise test at the cycle reference (R37): four or more latch CAM_NOISE, and the count becomes 0 either way. -/
def State.noiseTest (s : State) (ch : Channel) : State :=
  let noisy := decide (4 ≤ (s.meters.get ch).strayCount)
  let s := s.modMeter ch fun m => { m with strayCount := 0 }
  if noisy then s.latchChannel ch .camNoise else s

/-- Every record is marked invalid; the other fields keep their values (R30). -/
def Meter.invalidateRing (m : Meter) : Meter := { m with ring := m.ring.map fun r => { r with valid := false } }

/-- The meter takes the cycle reference: learning, park-watch flag, noise, ring (R30, R31, R37). -/
def State.meterCycleReference (s : State) (ch : Channel) : State :=
  let s := s.parkLearning ch
  let s := s.watchPark ch
  let s := s.noiseTest ch
  s.modMeter ch Meter.invalidateRing

/-- The missing-edge count after the test of R38. -/
def Meter.missingAfterTest (m : Meter) : Nat := if m.edgeSeen then m.missing else bump 4 m.missing

/-- "Revolution complete" at the meter (R38, R39): a count of 4 after the test latches CAM_LOST. -/
def State.revolutionTest (s : State) (ch : Channel) : State :=
  let n := (s.meters.get ch).missingAfterTest
  let s := s.modMeter ch fun m => { m with missing := n, edgeSeen := false }
  if n = 4 then s.latchChannel ch .camLost else s

/-- "Sync lost" at the meter (R40). -/
def Meter.syncLost (m : Meter) : Meter :=
  { m.invalidateRing with estimate := none, strayCount := 0, parkWatch := false }

end Sys2Proof.Machine
end

