-- ==== Sys2Proof/Machine/CycleReference.lean ====
section
/-! DEFINITION. The resistance trim (R122), the order in which the blocks take a cycle reference, and the responses of all
blocks to the decoder's events (R20, R38, R40, R48, R69, R70, R79, R91, R156, R172). -/

namespace Sys2Proof.Machine

/-! ### Resistance trim (R122) -/

/-- The lower bound of R_est: R_cfg × 7/10 (R123). -/
def rEstMin (rCfg : Nat) : Nat := rCfg * 7 / 10

/-- The upper bound of R_est: R_cfg × 16/10 (R123). -/
def rEstMax (rCfg : Nat) : Nat := rCfg * 16 / 10

/-- The measured resistance: (V × D) / (I_meas × 10) (R122). -/
def measuredResistance (supply : Int) (duty current : Nat) : Nat := supply.toNat * duty / (current * 10)

/-- The trimmed estimate: four units toward the measured resistance, limited to the bounds (R122). -/
def trimmedEstimate (rCfg rEst measured : Nat) : Nat :=
  limitNat (rEstMin rCfg) (rEstMax rCfg) (stepToward 4 measured rEst).toNat

/-- The measured resistance at a cycle reference, where R122's conditions for a trim hold: the channel is TRACKING, its duty
lies in 100..900, and its latest current sample is 100 mA or more. -/
def State.trimMeasure (s : State) (ch : Channel) : Option Nat :=
  let d := (s.drivers.get ch).duty
  match s.sense.supply, s.sense.currents.get ch with
  | some v, some i =>
    if s.channelState ch = .tracking ∧ 100 ≤ d ∧ d ≤ 900 ∧ 100 ≤ i then some (measuredResistance v d i) else none
  | _, _ => none

/-- The driver of a channel takes the cycle reference (R122). -/
def State.resistanceTrim (s : State) (ch : Channel) : State :=
  match s.trimMeasure ch with
  | none => s
  | some measured =>
    let rCfg := s.store.params.coilResistance
    let s := s.modDriver ch fun d => { d with rEst := trimmedEstimate rCfg d.rEst measured }
    s.computeDuty ch

/-! ### The cycle reference at every block -/

/-- One block takes the cycle reference. -/
def State.takeCycleReference (s : State) : CycleBlock → State
  | .meterA => s.meterCycleReference .a
  | .meterB => s.meterCycleReference .b
  | .target => s.targetCycleReference
  | .oil => s.oilCycleReference
  | .sequencer => s.sequencerCycleReference
  | .driverA => s.resistanceTrim .a
  | .driverB => s.resistanceTrim .b
  | .statusAssembly => s.queueStatus

/-- Every block that takes the cycle reference, in the model's own order. -/
def allBlocks : List CycleBlock :=
  [.meterA, .meterB, .target, .oil, .sequencer, .driverA, .driverB, .statusAssembly]

/-- The order in which the blocks take the cycle reference: the command's order, each block once, and the blocks it does not
name after them (log entry 3). -/
def blockOrder (order : List CycleBlock) : List CycleBlock :=
  (order ++ allBlocks).foldl (fun seen b => if b ∈ seen then seen else seen ++ [b]) []

/-- Every block takes the cycle reference (R20), in the order given. -/
def State.cycleReference (s : State) (order : List CycleBlock) : State :=
  (blockOrder order).foldl State.takeCycleReference s

/-! ### The decoder's other events at the blocks -/

/-- The STATUS timer starts from 0 (R156). -/
def State.startStatusTimer (s : State) : State :=
  s.modTimers fun t => { t with status := some { ticks := 0, owed := 0 } }

/-- "Sync lost" of any cause at the meters (R40), the target unit (R48), the oil budget unit (R70), the sequencers (R91) and
the STATUS timer (R156). -/
def State.publishSyncLost (s : State) : State :=
  let s := s.eachChannel fun s ch => s.modMeter ch Meter.syncLost
  let s := s.modTarget TargetUnit.syncReset
  let s := s.modOil OilUnit.syncLost
  let s := s.eachChannel State.channelSyncLost
  s.startStatusTimer

/-- "Sync gained" with level REV_SYNC at the meters (R41) and the configuration store (R172). -/
def State.publishRevSync (s : State) : State :=
  let s := s.eachChannel fun s ch => s.modMeter ch fun m => { m with edgeSeen := false }
  s.modStore fun c => { c with windowOpen := false }

/-- "Sync gained" with level CYCLE_SYNC at the target unit (R48), the oil budget unit (R69), the sequencer block (R79) and
the STATUS timer (R156). -/
def State.publishCycleSync (s : State) : State :=
  let s := s.modTarget TargetUnit.syncReset
  let s := s.modOil OilUnit.syncGained
  let s := s.modEngine fun e => { e with age := 255 }
  s.modTimers fun t => { t with status := none }

/-- "Revolution complete" at both meters (R38, R39). -/
def State.publishRevolution (s : State) : State := s.eachChannel State.revolutionTest

/-- A counted loss (R21): the counter increments, saturating at 4, the loss-free run becomes 0, and a counter left at 4
latches CRANK_UNSTABLE. -/
def State.countLoss (s : State) : State :=
  let n := bump 4 s.decoder.lossCounter
  let s := s.modDecoder fun d => { d with lossCounter := n, lossFreeRun := 0 }
  if n = 4 then s.latchStation .crankUnstable else s

end Sys2Proof.Machine
end

