-- ==== Sys2Proof/Machine/Crank.lean ====
section
/-! DEFINITION. The angle decoder (chapter 1): crank edges by crank state, the interpolated angle, cam edges and half
resolution, the stall, and the input filters. -/

namespace Sys2Proof.Machine

/-! ### Crank edges (R6 to R12) -/

/-- The saturated interval from the last accepted edge to a time stamp (R6). -/
def Decoder.interval (d : Decoder) (t : Tick) : Nat :=
  match d.lastEdge with
  | none => 1048575
  | some t0 => satInterval t0 t

/-- A noise edge: P_ref is present and the interval is below P_ref/4 (R6). -/
def Decoder.isNoise (d : Decoder) (t : Tick) : Bool :=
  match d.pRef with
  | none => false
  | some p => decide (d.interval t < p / 4)

/-- The interval classifies as gap: 2 × P_ref ≤ Δ ≤ 4 × P_ref (section 1.3). -/
def isGap (pRef interval : Nat) : Bool := decide (2 * pRef ≤ interval) && decide (interval ≤ 4 * pRef)

/-- The last accepted edge and the stall timer after an accepted edge (R6). -/
def Decoder.accept (d : Decoder) (t : Tick) : Decoder := { d with lastEdge := some t, stallRunning := true }

/-- The decoder after a tooth error (R11). -/
def Decoder.toothError (d : Decoder) (t : Tick) : Decoder :=
  { d.accept t with
    crank := .gapSeek
    tooth := none
    half := none
    pRef := some (d.interval t)
    prevCam := .both none }

/-- The decoder at a tooth 0 that closes the gap (R8, R10). -/
def Decoder.toothZero (d : Decoder) (t : Tick) : Decoder :=
  { d.accept t with tooth := some 0, pRef := some (d.interval t / 3) }

/-- The loss-free run's increment at a cycle reference (R22). -/
def Decoder.countCleanCycle (d : Decoder) : Decoder :=
  if 256 ≤ d.lossFreeRun + 1 then { d with lossCounter := d.lossCounter - 1, lossFreeRun := 0 }
  else { d with lossFreeRun := d.lossFreeRun + 1 }

/-- The decoder's own actions at the cycle reference (R20). -/
def Decoder.cycleReference (d : Decoder) : Decoder :=
  { d.countCleanCycle with cycleNumber := d.cycleNumber + 1 }

/-- A tooth error: sync is lost and the loss is counted (R11). -/
def State.toothError (s : State) (t : Tick) : State :=
  let s := s.modDecoder fun d => d.toothError t
  let s := s.publishSyncLost
  s.countLoss

/-- The gap found in GAP_SEEK (R8). -/
def State.gainRevSync (s : State) (t : Tick) : State :=
  let s := s.modDecoder fun d => { d.toothZero t with crank := .revSync, half := none, prevCam := .both none }
  s.publishRevSync

/-- Tooth 0 after tooth 27 (R10): "revolution complete", and in CYCLE_SYNC the half changes; when it changes to 0 the edge is
the cycle reference (R20). -/
def State.closeRevolution (s : State) (t : Tick) (order : List CycleBlock) : State :=
  match s.decoder.crank, s.decoder.half with
  | .cycleSync, some .zero =>
    (s.modDecoder fun d => { d.toothZero t with half := some .one }).publishRevolution
  | .cycleSync, some .one =>
    let s := s.modDecoder fun d => { d.toothZero t with half := some .zero }.cycleReference
    s.publishRevolution.cycleReference order
  | _, _ => (s.modDecoder fun d => d.toothZero t).publishRevolution

/-- An accepted edge in REV_SYNC or CYCLE_SYNC (R9, R10). -/
def State.syncedEdge (s : State) (t : Tick) (order : List CycleBlock) : State :=
  let delta := s.decoder.interval t
  match s.decoder.tooth, s.decoder.pRef with
  | some i, some p =>
    if i < 27 then
      if delta < 2 * p then s.modDecoder fun d => { d.accept t with tooth := some (i + 1), pRef := some delta }
      else s.toothError t
    else if isGap p delta then s.closeRevolution t order
    else s.toothError t
  | _, _ => s.toothError t

/-- An accepted edge in GAP_SEEK (R8). -/
def State.seekEdge (s : State) (t : Tick) : State :=
  let delta := s.decoder.interval t
  match s.decoder.pRef with
  | none => s.modDecoder fun d => { d.accept t with pRef := some delta }
  | some p =>
    if isGap p delta then s.gainRevSync t
    else s.modDecoder fun d => { d.accept t with pRef := some delta }

/-- A crank edge delivered by the filter (R6). -/
def State.crankEdge (s : State) (t : Tick) (order : List CycleBlock) : State :=
  if s.decoder.isNoise t then s
  else
    match s.decoder.crank with
    | .stopped => s.modDecoder fun d => { d.accept t with crank := .gapSeek }
    | .gapSeek => s.seekEdge t
    | .revSync => s.syncedEdge t order
    | .cycleSync => s.syncedEdge t order

/-- The decoder after a stall (R12). -/
def Decoder.stall (d : Decoder) : Decoder :=
  { d with
    crank := .stopped
    lastEdge := none
    pRef := none
    tooth := none
    half := none
    stallRunning := false
    prevCam := .both none }

/-- The expiry of the stall timer (R12): from REV_SYNC and CYCLE_SYNC "sync lost" is published. -/
def State.stall (s : State) : State :=
  match s.decoder.crank with
  | .stopped => s
  | .gapSeek => s.modDecoder Decoder.stall
  | .revSync => (s.modDecoder Decoder.stall).publishSyncLost
  | .cycleSync => (s.modDecoder Decoder.stall).publishSyncLost

/-! ### Interpolated angle (R13, R14) -/

/-- The elapsed time of R13: 0 for a time stamp before the last accepted edge, and limited to 1,048,575. -/
def elapsedSince (t0 t : Tick) : Nat :=
  let d := (t - t0).toNat
  if 2147483648 < d then 0 else min d 1048575

/-- The cap of the angle advance (R13). -/
def advanceCap (tooth : Nat) : Nat := if tooth < 27 then 119 else 359

/-- The revolution angle at a time stamp (R13). -/
def Decoder.revAngle (d : Decoder) (t : Tick) : Nat :=
  let i := d.tooth.getD 0
  i * 120 + min (120 * elapsedSince (d.lastEdge.getD 0) t / d.pRef.getD 0) (advanceCap i)

/-- The cycle angle of a revolution angle: half × 3600 plus it, in CYCLE_SYNC only (R14). -/
def Decoder.cycleAngle (d : Decoder) (rev : Nat) : Option Nat :=
  match d.crank with
  | .cycleSync => d.half.map fun h => h.toNat * 3600 + rev
  | .stopped => none
  | .gapSeek => none
  | .revSync => none

/-! ### Cam edges (R15 to R19) -/

/-- The later edge of a close pair: less than 600 after the cam's previous edge, modulo 3600 (R17). -/
def isClosePair (prev : Option Nat) (rev : Nat) : Bool :=
  match prev with
  | none => false
  | some p => decide (((rev : Int) - p) % 3600 < 600)

/-- The crank state after HALF_CONFLICT (R19). -/
def Decoder.halfConflict (d : Decoder) : Decoder := { d with crank := .revSync, half := none }

/-- A cam edge delivered by the filter (R15): the close-pair test (R17), half resolution (R18) or HALF_CONFLICT (R19), and
"cam edge captured". -/
def State.camEdge (s : State) (ch : Channel) (t : Tick) : State :=
  let rev := s.decoder.revAngle t
  let close := isClosePair (s.decoder.prevCam.get ch) rev
  let marked := s.modDecoder fun d => { d with prevCam := d.prevCam.set ch (some rev) }
  match s.decoder.crank with
  | .stopped => s
  | .gapSeek => s
  | .revSync =>
    if close then
      let s := marked.modDecoder fun d => { d with crank := .cycleSync, half := some (closePairHalf s.straps.role) }
      let s := s.publishCycleSync
      s.captureEdge ch (s.decoder.cycleAngle rev)
    else marked.captureEdge ch none
  | .cycleSync =>
    if close && decide (s.decoder.half ≠ some (closePairHalf s.straps.role)) then
      let s := marked.modDecoder Decoder.halfConflict
      let s := s.publishSyncLost
      let s := s.captureEdge ch none
      s.countLoss
    else marked.captureEdge ch (marked.decoder.cycleAngle rev)

/-! ### Input filters (R2 to R4) -/

/-- A candidate opens on an input: the time stamp, and the filter time that parameter 15 gives now (R2, R4). -/
def State.openCandidate (s : State) (pin : AnglePin) (t : Tick) : State :=
  let f := s.filters.get pin
  let c : Candidate := { stamp := t, filterTime := filterTicks s.store.params.filterCode }
  s.modFilters fun fs => fs.set pin { f with candidate := some c }

/-- The candidate of an input closes unrecognised (R3). -/
def State.closeCandidate (s : State) (pin : AnglePin) : State :=
  s.modFilters fun fs => fs.set pin { fs.get pin with candidate := none }

/-- The decoder reports cam glitches (R3). -/
def CrankState.synced : CrankState → Bool
  | .stopped => false
  | .gapSeek => false
  | .revSync => true
  | .cycleSync => true

/-- The change of an input is recognised (R2): its recognised level takes the new value and the candidate is closed. -/
def State.recognise (s : State) (pin : AnglePin) : State :=
  s.modFilters fun fs => fs.set pin { level := (fs.get pin).level.other, candidate := none }

/-- An edge delivered by the filter of an input (R2). -/
def State.deliverEdge (s : State) (pin : AnglePin) (t : Tick) (order : List CycleBlock) : State :=
  match camChannel pin with
  | none => s.crankEdge t order
  | some ch => s.camEdge ch t

end Sys2Proof.Machine
end

