-- ==== Sys2Proof/Machine/Samples.lean ====
section
/-! DEFINITION. The sense sequencer (chapter 8) and the driver block's response to samples (chapter 7): slots, filters,
open-coil test, under-voltage cut, thermal derate and thermal cut, and the OILP range check. -/

namespace Sys2Proof.Machine

/-! ### Slots (R134, R135) -/

/-- The five inputs of the converter. -/
inductive SenseInput where
  | ia
  | ib
  | oilp
  | vsup
  | tdie
  deriving DecidableEq, Repr

/-- The poll list (R134). -/
def pollInput (slot : Nat) : SenseInput :=
  match slot % 10 with
  | 0 => .ia
  | 1 => .ib
  | 2 => .oilp
  | 3 => .ia
  | 4 => .ib
  | 5 => .vsup
  | 6 => .ia
  | 7 => .ib
  | 8 => .tdie
  | _ => .oilp

/-- The current-sense input of a channel. -/
def currentInput : Channel → SenseInput
  | .a => .ia
  | .b => .ib

/-- The conversion in progress: the input of the current slot (R133). -/
def Timers.converting (t : Timers) : SenseInput := pollInput t.slotIndex

/-- The slot whose completion comes next: the earliest one owed, or else the one in progress. -/
def Timers.nextSlot (t : Timers) : Nat := (t.slotIndex + 9 * t.slot.owed) % 10

/-- The next completion is one of this input (R134). -/
def State.slotDue (s : State) (input : SenseInput) : Bool := decide (pollInput s.timers.nextSlot = input)

/-- A slot completes (R134, R135): the ticks that remain to its end pass, and its sample is taken. -/
def State.completeSlot (s : State) : State :=
  (s.elapse (s.timers.slot.toEnd 500)).modTimers fun t => { t with slot := t.slot.take }

/-- A filtered value after a sample (R137): the first sample itself, then a quarter of the way toward each new one. -/
def filtered (old : Option Int) (sample : Int) : Int :=
  match old with
  | none => sample
  | some f => f + divTrunc (sample - f) 4

/-! ### Coil current (R138, R126) -/

/-- A sample that counts toward the open-coil run (R126). -/
def State.lowCurrent (s : State) (ch : Channel) (sample : Nat) : Bool :=
  decide (200 ≤ s.command ch) && !s.driverCut ch && (s.timers.blanking.get ch).isNone &&
    decide (sample < s.command ch / 8)

/-- The open-coil test of a completed sample (R126): at a run of 4, OPEN_COIL latches and the run becomes 0. -/
def State.openCoilTest (s : State) (ch : Channel) (sample : Nat) : State :=
  if s.lowCurrent ch sample then
    if 4 ≤ (s.drivers.get ch).openRun + 1 then
      (s.modDriver ch fun d => { d with openRun := 0 }).latchChannel ch .openCoil
    else s.modDriver ch fun d => { d with openRun := d.openRun + 1 }
  else s.modDriver ch fun d => { d with openRun := 0 }

/-! ### Supply (R139, R127) -/

/-- Both duties computed anew (R127 to R129). -/
def State.computeDuties (s : State) : State := s.eachChannel State.computeDuty

/-- The under-voltage cut after a filtered supply (R127). -/
def underVoltageAfter (cut : Bool) (supply : Int) : Bool :=
  if cut then decide (supply < 8000) else decide (supply < 7000)

/-- The driver block's response to a completed VSUP sample (R127, R139). -/
def State.evaluateSupply (s : State) (supply : Int) : State :=
  let old := s.conditions.underVoltage
  let new := underVoltageAfter old supply
  let s := s.modConditions fun c => { c with underVoltage := new }
  let s := s.computeDuties
  if new && !old then s.returnRunning else s

/-! ### Die temperature (R140, R128, R129) -/

/-- The thermal derate after a filtered temperature (R128). -/
def derateAfter (derate : Bool) (t : Int) : Bool := if derate then decide (140 ≤ t) else decide (150 ≤ t)

/-- The thermal cut after a filtered temperature (R129). -/
def thermalCutAfter (cut : Bool) (t : Int) : Bool := if cut then decide (160 ≤ t) else decide (170 ≤ t)

/-- A channel's command at a change of Imax_eff (R106, R128): in RELEASING the release value against the new limit; in
TRACKING limited to the new limit when the derate sets, and left where it stands when the derate clears. -/
def State.limitCommand (s : State) (ch : Channel) : State :=
  match s.channelState ch with
  | .releasing => s.setCommand ch s.releaseCommand
  | .tracking => if s.conditions.derate then s.setCommand ch (min (s.command ch) s.imaxEff) else s
  | .parked => s
  | .returning => s
  | .fault => s

/-- The derate evaluated (R128). -/
def State.evaluateDerate (s : State) (t : Int) : State :=
  let old := s.conditions.derate
  let new := derateAfter old t
  if new = old then s
  else
    let s := s.modConditions fun c => { c with derate := new }
    let s := s.eachChannel State.limitCommand
    s.computeDuties

/-- The thermal cut evaluated (R129). -/
def State.evaluateThermalCut (s : State) (t : Int) : State :=
  let old := s.conditions.thermalCut
  let new := thermalCutAfter old t
  if new = old then s
  else
    let s := s.modConditions fun c => { c with thermalCut := new }
    let s := s.computeDuties
    if new then s.returnRunning else s

/-! ### Oil pressure (R141, R142) -/

/-- The range check of an OILP code (R142): eight out-of-band codes in a row latch OILP_SENSOR, and the run becomes 0. -/
def State.rangeCheck (s : State) (code : Code12) : State :=
  if inBand code then s.modSense fun n => { n with rangeRun := 0 }
  else if 8 ≤ s.sense.rangeRun + 1 then
    (s.modSense fun n => { n with rangeRun := 0 }).latchStation .oilpSensor
  else s.modSense fun n => { n with rangeRun := n.rangeRun + 1 }

end Sys2Proof.Machine
end

