-- ==== Sys2Proof/Machine/LinkControl.lean ====
section
/-! DEFINITION. The link controller (chapter 9) and what CLEAR, CONFIG, CLOSE and RESTART do at the blocks that take them
(chapters 10 and 11): the end of a frame read, the runs, acceptance and delivery, address clash, the send arbiter, and the
ways a transmission ends. -/

namespace Sys2Proof.Machine

/-! ### Reset (R174) -/

/-- Every block takes its reset values (R174), with the straps given. The queue is kept, since it is no part of the part.
So is the level of the PARK pin, which is the outside's: while it is low, its recognition time starts from 0 (R80). -/
def State.resetWith (s : State) (straps : Straps) : State :=
  { State.reset with
    pending := s.pending
    straps := straps
    engine := { EngineStore.atReset with parkPin := s.engine.parkPin }
    timers := { Timers.atReset with park := if s.engine.parkPin = .low then some 0 else none } }

/-! ### The configuration store (R169 to R173) -/

/-- A parameter stored (R169, R171): the value limited to its range, and the check value computed anew. -/
def Store.storeParam (c : Store) (id v : Nat) : Store :=
  { c with params := c.params.set id v, checkValue := (c.params.set id v).check }

/-- The effects of a store of parameter 7 (R110) and of parameter 9 (R123) at the event of the store (R170). -/
def State.reseed (s : State) (id v : Nat) : State :=
  if id = 7 then s.eachChannel fun s ch => s.modController ch fun c => { c with learnedNull := v }
  else if id = 9 then s.eachChannel fun s ch => (s.modDriver ch fun d => { d with rEst := v }).computeDuty ch
  else s

/-- A CONFIG frame at the store (R169): taken when addressed, with the window open and an id below 20. -/
def State.takeConfig (s : State) (addressed : Bool) (id value : Word16) : State :=
  if addressed && s.store.windowOpen then
    match paramRange id.toNat with
    | none => s
    | some (lo, hi) =>
      let v := limitNat lo hi value.toNat
      (s.modStore fun c => c.storeParam id.toNat v).reseed id.toNat v
  else s

/-- A CLOSE frame at the store (R172). -/
def State.takeClose (s : State) (addressed : Bool) : State :=
  if addressed then s.modStore fun c => { c with windowOpen := false } else s

/-- A RESTART frame at the store (R173): taken when addressed, in STOPPED, with each channel PARKED or in FAULT. -/
def State.takeRestart (s : State) (addressed : Bool) (straps : Straps) : State :=
  if addressed && decide (s.decoder.crank = .stopped) && (s.channelState .a).parkedOrFault &&
      (s.channelState .b).parkedOrFault then
    s.resetWith straps
  else s

/-! ### CLEAR (R179) -/

/-- The relearn of a CLEAR at a channel that is PARKED or in FAULT: the meter (R35), the learned null (R111) and the
resistance estimate (R123). -/
def State.relearn (s : State) (ch : Channel) : State :=
  if (s.channelState ch).parkedOrFault then
    let s := s.modMeter ch Meter.relearn
    let n := s.store.params.nullBase
    let r := s.store.params.coilResistance
    let s := s.modController ch fun c => { c with learnedNull := n }
    let s := s.modDriver ch fun d => { d with rEst := r }
    s.computeDuty ch
  else s

/-- A CLEAR that covers a channel: its fault set is emptied (R179), a FAULT channel goes to PARKED and its attempts reload
(R94), the overcurrent trip clears if OVERCURRENT was removed (R125), and relearn acts if the flag is set. -/
def State.clearChannel (s : State) (relearn : Bool) (ch : Channel) : State :=
  let hadOvercurrent := (s.faults.channel.get ch).overcurrent
  let s := s.modFaults fun f => { f with channel := f.channel.set ch ChannelFaults.empty }
  let s := s.sequencerClear ch
  let s := if hadOvercurrent then (s.modDriver ch fun d => { d with trip := false }).computeDuty ch else s
  if relearn then s.relearn ch else s

/-- A CLEAR that covers the station: the station set is emptied (R179), and the sync-loss counter and the loss-free run
become 0 (R22). -/
def State.clearStation (s : State) : State :=
  let s := s.modFaults fun f => { f with station := StationFaults.empty }
  s.modDecoder fun d => { d with lossCounter := 0, lossFreeRun := 0 }

/-- A CLEAR frame at every block it acts on (R179). -/
def State.takeClear (s : State) (w : Word16) : State :=
  let scope := readScope w
  let s := if scope.covers .a then s.clearChannel (readRelearn w) .a else s
  let s := if scope.covers .b then s.clearChannel (readRelearn w) .b else s
  if scope.coversStation then s.clearStation else s

/-! ### The runs (R152) -/

/-- A good frame (R152): the discard run becomes 0, and a good run that reaches 16 clears link-errors. -/
def Link.countGood (l : Link) : Link :=
  let n := bump 16 l.goodRun
  { l with discardRun := 0, goodRun := n, linkErrors := l.linkErrors && decide (n ≠ 16) }

/-- A counted discard (R152): the good run becomes 0, and a discard run that reaches 3 sets link-errors and stays at 3. -/
def Link.countDiscard (l : Link) : Link :=
  let n := bump 3 l.discardRun
  { l with goodRun := 0, discardRun := n, linkErrors := l.linkErrors || decide (n = 3) }

/-- The end of a frame read through its end field: its eight recessive bits count toward the gap (R145, R154). -/
def Link.endFrame (l : Link) : Link := { l with reading := .no, gapCount := 8, dominantRun := 0 }

/-- A frame of another station can be read (R145, R150): the part sends none, and either a frame is being read or the line is
idle, so that the frame's start bit opens it. -/
def Link.hears (l : Link) : Bool :=
  decide (l.transmitter = .free) && (decide (l.reading ≠ .no) || decide (l.gapCount = 11))

/-! ### Good frames (R150, R153) -/

/-- The four slots emptied and the transmit silence set (R153). -/
def Link.silenced (l : Link) : Link :=
  { l with silence := true, status := .empty, faultA := .empty, faultB := .empty, faultStation := .empty }

/-- An address clash (R153): the silence is set, the slots are emptied, and ADDRESS_CLASH is reported. -/
def State.addressClash (s : State) : State := (s.modLink Link.silenced).latchStation .addressClash

/-- The frame is accepted: broadcast, or addressed to the part (R150, step 2). -/
def accepted (own : Address) (f : Frame) : Bool := !f.header.addressed || decide (f.header.dest = own)

/-- What a frame of a class and a length that some block uses carries there (R150, step 4; section 9.2). -/
inductive FrameUse where
  | target (mode intake exhaust : Word16)
  | engine (code : Word16)
  | status (word5 : Word16)
  | clear (w : Word16)
  | config (id value : Word16)
  | close
  | restart
  /-- Class 0, a class above 7, or a length that is not the class's: no block uses the frame. -/
  | unused
  deriving DecidableEq, Repr

/-- The use of a frame, from its class and its payload. -/
def frameUse (f : Frame) : FrameUse :=
  match f.payload with
  | [] => if f.cls = 6 then .close else if f.cls = 7 then .restart else .unused
  | [w] => if f.cls = 2 then .engine w else if f.cls = 4 then .clear w else .unused
  | [id, value] => if f.cls = 5 then .config id value else .unused
  | [mode, intake, exhaust] => if f.cls = 1 then .target mode intake exhaust else .unused
  | [_, _, _, _, _, w5, _] => if f.cls = 3 then .status w5 else .unused
  | _ => .unused

/-- An accepted frame of class 1 to 7 with its class's length is delivered to the block that uses it; any other is ignored
(R150, steps 3 and 4). -/
def State.deliver (s : State) (f : Frame) (straps : Straps) : State :=
  match frameUse f with
  | .target mode intake exhaust => s.modTarget fun t => t.arrival f.header.addressed mode intake exhaust
  | .engine code => s.engineArrival code
  | .status w5 => s.modOil fun o => o.statusArrival f.header.source w5
  | .clear w => s.takeClear w
  | .config id value => s.takeConfig f.header.addressed id value
  | .close => s.takeClose f.header.addressed
  | .restart => s.takeRestart f.header.addressed straps
  | .unused => s

/-- A good frame at the read of its last end bit (R145, R150): the frame ends, it counts as good, and it is a clash, accepted or passed over.
Where no frame of another station can be read nothing is received (R145, R150). `straps` is what the strap pins read now,
which only a RESTART that is taken uses. -/
def State.receive (s : State) (f : Frame) (straps : Straps) : State :=
  if s.link.hears then
    let s := s.atBitRead fun l => l.endFrame.countGood
    if f.header.source = s.straps.address then s.addressClash
    else if accepted s.straps.address f then s.deliver f straps
    else s
  else s

/-! ### Discarded frames (R147, R152) -/

/-- The frame being read ends (R147, R148): at a framing error or an illegal length at that bit with a gap count of 0, at a
bad check after its end field. The discard is counted, but for the remains of the part's own frame (R151). -/
def Link.discard (l : Link) (bits : List Bool) : Link :=
  let counted := decide (l.reading ≠ .ownRemains)
  match judge bits with
  | .aborted n =>
    let l' := { l with reading := .no, gapCount := 0, dominantRun := min 40 (dominantTail (bits.take n)) }
    if counted then l'.countDiscard else l'
  | .badCheck =>
    if counted then l.endFrame.countDiscard else l.endFrame
  | .incomplete => l
  | .good _ => l

/-- The bits read can be those of the frame being read: a frame begins with a dominant bit (R145), but for the remains of the
part's own after the bit error of a start bit read recessive (R151, R160). -/
def Link.readsFrom (l : Link) (bits : List Bool) : Bool :=
  decide (bits.head? = some false) || decide (l.reading = .ownRemains)

/-- The frame being read is discarded at the read of the bit that ends it (R145, R147, R148). Where no frame of another station
can be read, or none that begins with these bits, nothing is discarded. -/
def State.discard (s : State) (bits : List Bool) : State :=
  if s.link.hears && s.link.readsFrom bits && (judge bits).discards then s.atBitRead fun l => l.discard bits else s

/-! ### Sending (R158 to R162) -/

/-- The line is idle (R145). -/
def Link.idle (l : Link) : Bool := decide (l.gapCount = 11) && decide (l.reading = .no)

/-- The frame a slot offers the arbiter: a content whose on-line mark is clear (R158). -/
def Slot.waiting (sl : Slot) : Option Frame := if sl.onLine then none else sl.content

/-- The slot the arbiter chooses, and its content: the first fault slot of the fault-slot order that has one, else STATUS
(R158). -/
def Link.choose (l : Link) : Option (SlotName × Frame) :=
  (l.faultOrder ++ [SlotName.status]).findSome? fun k => (l.slot k).waiting.map fun f => (k, f)

/-- The conditions of R158 on the line, the transmitter and the flags. -/
def Link.mayStart (l : Link) : Bool := l.idle && decide (l.transmitter = .free) && !l.busStuck && !l.silence

/-- The send arbiter starts a transmission when every condition of R158 holds: the content is copied, the on-line mark sets,
and the start bit is driven, whose read is counted here (log entry 6). -/
def Link.start (l : Link) : Link :=
  if l.mayStart then
    match l.choose with
    | none => l
    | some (k, f) =>
      { (l.modSlot k fun sl => { sl with onLine := true }) with
        transmitter := .sending k f
        reading := .frame
        gapCount := 0
        dominantRun := 1 }
  else l

/-- A fault slot moves to the end of the fault-slot order (R158). -/
def moveToEnd (order : List SlotName) (k : SlotName) : List SlotName :=
  if k ∈ order then (order.filter fun j => decide (j ≠ k)) ++ [k] else order

/-- Lost arbitration (R159): the transmitter becomes free, the slot's on-line mark clears, and the winner's frame is read
on. -/
def Link.loseArbitration (l : Link) (at_ : Nat) : Link :=
  match l.transmitter with
  | .free => l
  | .sending k f =>
    if losesArbitration f at_ then
      { (l.modSlot k fun sl => { sl with onLine := false }) with
        transmitter := .free
        reading := .frame
        dominantRun := dominantTail (readBack f at_) }
    else l

/-- Reading this bit of the frame being sent against what is sent loses arbitration (R159). -/
def Link.losesAt (l : Link) (bit : Nat) : Bool :=
  match l.transmitter with
  | .free => false
  | .sending _ f => losesArbitration f bit

/-- The transmission ends in lost arbitration at the read of a bit (R145, R159). -/
def State.loseArbitration (s : State) (bit : Nat) : State :=
  if s.link.losesAt bit then s.atBitRead fun l => l.loseArbitration bit else s

/-- A slot after a bit error that does not drop its content (R160). -/
def Slot.failed (sl : Slot) : Slot := { sl with onLine := false, attempts := sl.attempts + 1 }

/-- What becomes of the frame being read after the part's bit error (R151): the part reads on what remains of its own frame,
unless the bit just read is itself a framing error or completes an illegal length, which ends the frame at that bit with a gap
count of 0 (R147). That end is no discard that counts. -/
def Link.readRemains (l : Link) (bits : List Bool) : Link :=
  match judge bits with
  | .aborted _ => { l with reading := .no, gapCount := 0 }
  | .incomplete => { l with reading := .ownRemains }
  | .badCheck => { l with reading := .ownRemains }
  | .good _ => { l with reading := .ownRemains }

/-- A bit error (R160): the transmitter becomes free, the slot's on-line mark clears and its failed attempts increment. At 8
the content is dropped, link-errors sets, the good run becomes 0 and a fault slot moves to the end of the order (R161). The
part reads on what remains of its own frame, if that bit does not end it (R147, R151). -/
def Link.failBit (l : Link) (at_ : Nat) : Link :=
  match l.transmitter with
  | .free => l
  | .sending k f =>
    if isBitError f at_ then
      let l :=
        { l.readRemains (readBack f at_) with transmitter := .free, dominantRun := dominantTail (readBack f at_) }
      if 8 ≤ (l.slot k).attempts + 1 then
        { (l.modSlot k fun _ => Slot.empty) with
          linkErrors := true
          goodRun := 0
          faultOrder := moveToEnd l.faultOrder k }
      else l.modSlot k Slot.failed
    else l

/-- Reading this bit of the frame being sent against what is sent is a bit error (R160). -/
def Link.failsAt (l : Link) (bit : Nat) : Bool :=
  match l.transmitter with
  | .free => false
  | .sending _ f => isBitError f bit

/-- The transmission ends in a bit error at the read of a bit (R145, R160, R161). -/
def State.failBit (s : State) (bit : Nat) : State :=
  if s.link.failsAt bit then s.atBitRead fun l => l.failBit bit else s

/-- A slot at the completion of the frame copied from it: emptied if its on-line mark is still set, else its newer content
stays with its count (R162). -/
def Slot.completed (sl : Slot) : Slot := if sl.onLine then .empty else sl

/-- Completion at the link controller (R162): the transmitter is free, the slot is emptied or keeps its newer content, a
fault slot moves to the end of the order, the frame counts as good and the gap count becomes 8. -/
def Link.complete (l : Link) (k : SlotName) : Link :=
  let l := { l with transmitter := .free, faultOrder := moveToEnd l.faultOrder k }
  (l.modSlot k Slot.completed).endFrame.countGood

/-- A content that still waits in the STATUS slot carries a channel's reached flag set (R162). -/
def State.reachedWaits (s : State) (ch : Channel) : Bool := s.link.status.content.any fun f => f.carriesReached ch

/-- The reached flag of a channel clears if the completed STATUS content carried it set (R113), unless a newer content that
still waits in the slot carries it set too: it then stays until that content completes (R162). -/
def State.clearReached (s : State) (f : Frame) (ch : Channel) : State :=
  if f.carriesReached ch && !s.reachedWaits ch then s.modController ch fun c => { c with reached := false } else s

/-- A transmission completes at the read of its last end bit (R145, R162). The slot holds its newer content, if there is one, when the flags are judged. -/
def State.completeTransmission (s : State) : State :=
  match s.link.transmitter with
  | .free => s
  | .sending k f =>
    let s := s.atBitRead fun l => l.complete k
    if k = .status then s.eachChannel fun s ch => s.clearReached f ch else s

/-! ### Line reads outside a frame (R145, R154) -/

/-- A dominant read adds to the dominant run, up to 40, and at 40 sets the bus-stuck flag (R154). -/
def Link.dominantRead (l : Link) : Link :=
  let n := bump 40 l.dominantRun
  { l with dominantRun := n, busStuck := l.busStuck || decide (n = 40) }

/-- A dominant bit read by a controller that reads no frame (R145): on an idle line it is a start bit, else it opens no frame.
Either way the gap count is 0 after it (log entry 6). -/
def Link.dominantBit (l : Link) : Link :=
  match l.reading with
  | .no => { l.dominantRead with gapCount := 0, reading := if l.idle then .frame else .no }
  | .frame => l
  | .ownRemains => l

end Sys2Proof.Machine
end

