-- ==== Sys2Proof/Machine/ChannelCommands.lean ====
section
/-! DEFINITION. The meanings of the channel sequencers' and the position controllers' commands (chapters 5 and 6). A command
that names the completion of a run or a count takes the event that completes it, with the measured phase or the control error
that the meter or the controller holds at that event. -/

namespace Sys2Proof.Machine

/-- ENGINE (R78, R150): a good frame of class 2 with one word. -/
def execEngine (h : Header) (code : Word16) (s : State) : Host.Outcome State Fault Refusal :=
  act s fun s => s.receive { cls := 2, header := h, payload := [code] } s.straps

/-- ENGINE_STATE_STALE (R79): a cycle reference that brings the engine age to 9 with RUNNING. -/
def execEngineStateStale (s : State) : Host.Outcome State Fault Refusal :=
  act s fun s =>
    if s.decoder.crank = .cycleSync ∧ bump 255 s.engine.age = 9 ∧ s.engine.engine = .running then s.engineAging else s

/-- The level of the PARK pin that the recognised request stands for: high is requested (R80). -/
def recognisedLevel (requested : Bool) : PinLevel := if requested then .high else .low

/-- PARK_PIN_CHANGE (R80): the pin takes its other level. A departure from the recognised level starts the 1 ms; a return to
it within that time changes nothing. The pin is the outside's, and moves while VDD stands below the reset threshold too: the
1 ms then begins at the release (R80, R174). A return that is taken when the 1 ms has already passed, with its recognition not
taken, still ends the time unrecognised (DESIGN CHOICE, log entry 2). -/
def execParkPinChange (s : State) : Host.Outcome State Fault Refusal :=
  let pin := s.engine.parkPin.other
  .next
    ((s.modEngine fun e => { e with parkPin := pin }).modTimers fun t =>
      { t with park := if pin = recognisedLevel s.engine.parkRequest then none else some 0 })

/-- PARK_REQUEST_RECOGNISED (R80): the new level has held for 1 ms. -/
def execParkRequestRecognised (s : State) : Host.Outcome State Fault Refusal :=
  act s fun s =>
    match s.timers.park with
    | none => s
    | some n =>
      let s := s.elapse (ticksLeft millisecond n)
      let s := s.modTimers fun t => { t with park := none }
      let requested := decide (s.engine.parkPin = .high)
      let s := s.modEngine fun e => { e with parkRequest := requested }
      if requested then s.returnRunning else s

/-- RELEASE_SUCCESS (R82): the phase-measured event that brings the success run to 2. -/
def execReleaseSuccess (ch : Channel) (s : State) : Host.Outcome State Fault Refusal :=
  act s fun s =>
    match (s.meters.get ch).estimate with
    | none => s
    | some phase =>
      if s.channelState ch = .releasing ∧ 30 ≤ phase ∧ bump 2 (s.sequencers.get ch).successRun = 2 then
        s.releaseProgress ch phase
      else s

/-- RELEASE_TIMEOUT (R84): the cycle reference that brings the release count to 8. -/
def execReleaseTimeout (ch : Channel) (s : State) : Host.Outcome State Fault Refusal :=
  act s fun s =>
    if s.decoder.crank = .cycleSync ∧ s.channelState ch = .releasing ∧
        bump 8 (s.sequencers.get ch).releaseCount = 8 then
      s.releaseTick ch
    else s

/-- RETRY_HOLD_EXPIRY (R85): the cycle reference that brings the retry hold of a PARKED channel to 0. -/
def execRetryHoldExpiry (ch : Channel) (s : State) : Host.Outcome State Fault Refusal :=
  act s fun s =>
    if s.decoder.crank = .cycleSync ∧ s.channelState ch = .parked ∧ (s.sequencers.get ch).retryHold = 1 then
      s.retryTick ch
    else s

/-- RETURN_ARRIVAL (R89): the phase-measured event that brings the return run to 3. -/
def execReturnArrival (ch : Channel) (s : State) : Host.Outcome State Fault Refusal :=
  act s fun s =>
    match (s.meters.get ch).estimate with
    | none => s
    | some phase =>
      if s.channelState ch = .returning ∧ nearPark phase = true ∧ bump 3 (s.sequencers.get ch).returnRun = 3 then
        s.returnProgress ch phase
      else s

/-- NO_RETURN (R90): the cycle reference that brings the return count to 60. -/
def execNoReturn (ch : Channel) (s : State) : Host.Outcome State Fault Refusal :=
  act s fun s =>
    if s.decoder.crank = .cycleSync ∧ s.channelState ch = .returning ∧
        bump 60 (s.sequencers.get ch).returnCount = 60 then
      s.returnTick ch
    else s

/-- NULL_TRANSFER (R107, R108): the stationary update that brings the count to 40. -/
def execNullTransfer (ch : Channel) (s : State) : Host.Outcome State Fault Refusal :=
  act s fun s =>
    match (s.controllers.get ch).lastError with
    | none => s
    | some e =>
      if s.channelState ch = .tracking ∧ s.settled ch e = true ∧ 40 ≤ (s.controllers.get ch).stationary + 1 then
        s.modController ch fun c => c.stationaryUpdate true
      else s

/-- TRACK_ERROR (R114): the update that brings the track-error count to 40. -/
def execTrackError (ch : Channel) (s : State) : Host.Outcome State Fault Refusal :=
  act s fun s =>
    match (s.controllers.get ch).lastError with
    | none => s
    | some e =>
      if s.channelState ch = .tracking ∧ 100 < e.natAbs ∧ bump 40 (s.controllers.get ch).trackErrors = 40 then
        s.trackErrorUpdate ch e
      else s

end Sys2Proof.Machine
end

