-- ==== Sys2Proof/Machine/DecoderCommands.lean ====
section
/-! DEFINITION. The meanings of the angle decoder's and the phase meters' commands (chapters 1 and 2). A command that names an
event which the state does not let happen changes nothing (log entry 5). -/

namespace Sys2Proof.Machine

/-- FILTER_CANDIDATE_OPEN (R2, R4): the pin leaves its recognised level at the time stamp. On an input whose candidate is
open the pin has already left it. -/
def execFilterCandidateOpen (pin : AnglePin) (stamp : Tick) (s : State) : Host.Outcome State Fault Refusal :=
  act s fun s =>
    if (s.filters.get pin).candidate.isSome then s else (s.elapseTo stamp).openCandidate pin stamp

/-- GLITCH (R3): the candidate closes; a cam glitch in REV_SYNC or CYCLE_SYNC is reported to the cam's phase meter, which
counts it (R36). A GLITCH taken when the filter time has already passed on the time base, with its expiry not taken, still closes
the candidate unrecognised (DESIGN CHOICE, log entry 2). -/
def execGlitch (pin : AnglePin) (s : State) : Host.Outcome State Fault Refusal :=
  act s fun s =>
    if (s.filters.get pin).candidate.isSome then
      let s := s.closeCandidate pin
      match camChannel pin with
      | none => s
      | some ch => if s.decoder.crank.synced then s.modMeter ch Meter.countStray else s
    else s

/-- FILTER_TIME_EXPIRY (R2): the open candidate is recognised when its filter time has passed; a falling change is delivered
as an edge that carries the candidate's time stamp. -/
def execFilterTimeExpiry (pin : AnglePin) (order : List CycleBlock) (s : State) : Host.Outcome State Fault Refusal :=
  act s fun s =>
    match (s.filters.get pin).candidate with
    | none => s
    | some c =>
      let s := s.elapse (ticksLeft c.filterTime (s.timers.timeBase - c.stamp).toNat)
      let s := s.recognise pin
      match (s.filters.get pin).level with
      | .high => s
      | .low => s.deliverEdge pin c.stamp order

/-- STALL_TIMER_EXPIRY (R12). In STOPPED the timer is stopped and cannot expire. -/
def execStallTimerExpiry (s : State) : Host.Outcome State Fault Refusal :=
  act s fun s =>
    if s.decoder.stallRunning then
      (s.elapse (ticksLeft 1048575 (s.timers.timeBase - s.decoder.lastEdge.getD 0).toNat)).stall
    else s

/-- CRANK_UNSTABLE (R21): a counted loss that leaves the sync-loss counter at 4. No loss is counted in STOPPED. -/
def execCrankUnstable (s : State) : Host.Outcome State Fault Refusal :=
  act s fun s =>
    if s.decoder.crank ≠ .stopped ∧ bump 4 s.decoder.lossCounter = 4 then s.countLoss else s

/-- LOSS_FREE_RUN_EXPIRY (R22): a cycle reference's increment that would bring the loss-free run to 256. -/
def execLossFreeRunExpiry (s : State) : Host.Outcome State Fault Refusal :=
  act s fun s =>
    if s.decoder.crank = .cycleSync ∧ 256 ≤ s.decoder.lossFreeRun + 1 then s.modDecoder Decoder.countCleanCycle else s

/-- CAM_LOST (R38, R39): the meter takes a revolution complete that leaves its missing-edge count at 4. -/
def execCamLost (ch : Channel) (s : State) : Host.Outcome State Fault Refusal :=
  act s fun s =>
    if s.decoder.crank.synced = true ∧ (s.meters.get ch).missingAfterTest = 4 then s.revolutionTest ch else s

/-- CAM_NOISE (R37): the meter's noise test at a cycle reference finds a count of 4 or more. -/
def execCamNoise (ch : Channel) (s : State) : Host.Outcome State Fault Refusal :=
  act s fun s =>
    if s.decoder.crank = .cycleSync ∧ 4 ≤ (s.meters.get ch).strayCount then s.noiseTest ch else s

end Sys2Proof.Machine
end

