-- ==== Sys2Proof/Machine/DriverCommands.lean ====
section
/-! DEFINITION. The meanings of the solenoid drivers' and the sense sequencer's commands (chapters 7 and 8). -/

namespace Sys2Proof.Machine

/-- The ticks until the period start to be taken: none while one is owed (R121). -/
def State.ticksToPeriod (s : State) (ch : Channel) : Nat :=
  if s.timers.periodsOwed.get ch = 0 then 2500 - ticksIntoPeriod ch s.timers.pwm else 0

/-- The on-time of a duty: D × 5/2 ticks, truncated (R121). -/
def onTimeOf (duty : Nat) : Nat := duty * 5 / 2

/-- The driver at a period start (R121): the duty in force is taken; above 0 it turns the output on for its on-time. -/
def Driver.startPeriod (d : Driver) : Driver :=
  { d with output := decide (0 < d.duty), onTime := onTimeOf d.duty }

/-- The output stays on across the period boundary: it is on, and its on-time is the whole period (R121). -/
def Driver.unbroken (d : Driver) : Bool := d.output && decide (2500 ≤ d.onTime)

/-- PWM_PERIOD_START (R121): the ticks that remain to the period start pass, and the driver takes the duty in force. An output
that was on without a break to the boundary stays so (R124). -/
def execPwmPeriodStart (ch : Channel) (s : State) : Host.Outcome State Fault Refusal :=
  act s fun s =>
    let unbroken := (s.drivers.get ch).unbroken
    let s := s.elapse (s.ticksToPeriod ch)
    let s := s.modTimers fun t =>
      { t with
        periodsOwed := t.periodsOwed.set ch (t.periodsOwed.get ch - 1)
        sinceOn := if unbroken then t.sinceOn else t.sinceOn.set ch (min 80 (ticksIntoPeriod ch t.pwm)) }
    s.modDriver ch Driver.startPeriod

/-- ON_TIME_END (R121): the output turns off until the next period start. An on-time of the whole period does not end: the
output stays on across the period boundary. The on-time of a period whose successor has begun ended before now. -/
def execOnTimeEnd (ch : Channel) (s : State) : Host.Outcome State Fault Refusal :=
  act s fun s =>
    let d := s.drivers.get ch
    if d.output = true ∧ d.onTime < 2500 then
      let left := if s.timers.periodsOwed.get ch = 0 then ticksLeft d.onTime (ticksIntoPeriod ch s.timers.pwm) else 0
      (s.elapse left).modDriver ch fun d => { d with output := false }
    else s

/-- The ticks that must still pass for 8 µs (80 ticks) of continuous on-time of a channel, if its output stays on so long
(R124): the on-time in progress lasts beyond them, or it lasts the whole period and they end within it. A period start that is
owed comes first. -/
def State.comparatorRun (s : State) (ch : Channel) : Option Nat :=
  let d := s.drivers.get ch
  let left := 80 - s.timers.sinceOn.get ch
  let last := ticksIntoPeriod ch s.timers.pwm + left
  if d.output = true ∧ s.timers.periodsOwed.get ch = 0 ∧ (last < d.onTime ∨ 2500 ≤ d.onTime ∧ last ≤ 2500) then some left
  else none

/-- The trip of a channel (R124): output off, trip set, duty 0 with its flag clear, and OVERCURRENT latched. -/
def State.tripDriver (s : State) (ch : Channel) : State :=
  (s.modDriver ch fun d => { d with output := false, trip := true, duty := 0, saturated := false }).latchChannel ch
    .overcurrent

/-- OVERCURRENT (R124): the coil current stands at a value until 8 µs of continuous on-time are complete; above the threshold
(parameter 14) the comparator trips then. -/
def execOvercurrent (ch : Channel) (current : Nat) (s : State) : Host.Outcome State Fault Refusal :=
  act s fun s =>
    match s.comparatorRun ch with
    | none => s
    | some left => if s.store.params.overcurrent < current then (s.elapse left).tripDriver ch else s

/-- OPEN_COIL_BLANKING_EXPIRY (R126): 1 ms after the blanking started. -/
def execOpenCoilBlankingExpiry (ch : Channel) (s : State) : Host.Outcome State Fault Refusal :=
  act s fun s =>
    match s.timers.blanking.get ch with
    | none => s
    | some n =>
      let s := s.elapse (ticksLeft millisecond n)
      s.modTimers fun t => { t with blanking := t.blanking.set ch none }

/-- OPEN_COIL (R126): the test of the latest current sample that brings the run to 4. -/
def execOpenCoil (ch : Channel) (s : State) : Host.Outcome State Fault Refusal :=
  act s fun s =>
    match s.sense.currents.get ch with
    | none => s
    | some sample =>
      if s.lowCurrent ch sample = true ∧ 4 ≤ (s.drivers.get ch).openRun + 1 then s.openCoilTest ch sample else s

/-- CURRENT_SAMPLE (R138): the scaled sample is stored as the channel's latest and the open-coil test runs (R126). It is the
completion of a slot of the channel's input, and comes only when that slot is the next to complete (R134). -/
def execCurrentSample (ch : Channel) (code : Code12) (s : State) : Host.Outcome State Fault Refusal :=
  act s fun s =>
    if s.slotDue (currentInput ch) then
      let s := s.completeSlot.modSense fun n => { n with currents := n.currents.set ch (some (scaleCurrent code)) }
      s.openCoilTest ch (scaleCurrent code)
    else s

/-- OILP_SAMPLE (R141), when an OILP slot is the next to complete (R134): scaling, filter, range check. -/
def execOilpSample (code : Code12) (s : State) : Host.Outcome State Fault Refusal :=
  act s fun s =>
    if s.slotDue .oilp then
      let s := s.completeSlot.modSense fun n => { n with pressure := some (filtered n.pressure (scalePressure code)) }
      s.rangeCheck code
    else s

/-- OILP_SENSOR (R142): the range check of an out-of-band code that brings the run to 8. -/
def execOilpSensor (code : Code12) (s : State) : Host.Outcome State Fault Refusal :=
  act s fun s =>
    if inBand code = false ∧ 8 ≤ s.sense.rangeRun + 1 then s.rangeCheck code else s

/-- VSUP_SAMPLE (R139), when the VSUP slot is the next to complete (R134): the filtered supply is updated, and the driver block
evaluates the under-voltage cut and computes both duties. -/
def execVsupSample (code : Code12) (s : State) : Host.Outcome State Fault Refusal :=
  act s fun s =>
    if s.slotDue .vsup then
      let v := filtered s.sense.supply (scaleSupply code)
      let s := s.completeSlot.modSense fun n => { n with supply := some v }
      s.evaluateSupply v
    else s

/-- TDIE_SAMPLE (R140), when the TDIE slot is the next to complete (R134): the filtered die temperature is updated, and the
driver block evaluates the derate and the thermal cut. -/
def execTdieSample (code : Code12) (s : State) : Host.Outcome State Fault Refusal :=
  act s fun s =>
    if s.slotDue .tdie then
      let t := filtered s.sense.temperature (scaleTemperature code)
      let s := s.completeSlot.modSense fun n => { n with temperature := some t }
      (s.evaluateDerate t).evaluateThermalCut t
    else s

end Sys2Proof.Machine
end

