-- ==== Sys2Proof/Machine/LinkCommands.lean ====
section
/-! DEFINITION. The meanings of the engine link's, the configuration store's and the fault unit's commands (chapters 9 to 11)
and of power-on reset (R174). -/

namespace Sys2Proof.Machine

/-- POWER_ON_RESET (R174): every block takes its reset values at the fall, which leaves the part held in reset with the straps
it had sampled; the rise releases it and samples the straps (R167). A rise on a part that is not held in reset releases
nothing and changes nothing: R174 has a lower threshold for the fall and a higher one for the rise, and says of the rise only
that it releases (the model's reading, DEDUCED, log entry 16). -/
def execPowerOnReset (edge : SupplyEdge) (pins : StrapPins) (s : State) : Host.Outcome State Fault Refusal :=
  match edge with
  | .falls => .next { s.resetWith s.straps with supplyLow := true }
  | .rises => .next (if s.supplyLow then s.resetWith (sampleStraps pins) else s)

/-- CLEAR (R179, R150): a good frame of class 4 with one word. -/
def execClear (h : Header) (w : Word16) (s : State) : Host.Outcome State Fault Refusal :=
  act s fun s => s.receive { cls := 4, header := h, payload := [w] } s.straps

/-- CONFIG (R169, R150): a good frame of class 5 with two words. -/
def execConfig (h : Header) (id value : Word16) (s : State) : Host.Outcome State Fault Refusal :=
  act s fun s => s.receive { cls := 5, header := h, payload := [id, value] } s.straps

/-- CLOSE (R172, R150): a good frame of class 6 with no payload. -/
def execClose (h : Header) (s : State) : Host.Outcome State Fault Refusal :=
  act s fun s => s.receive { cls := 6, header := h, payload := [] } s.straps

/-- RESTART (R173, R174, R150): a good frame of class 7 with no payload; the straps are sampled if it is taken (R167). -/
def execRestart (h : Header) (pins : StrapPins) (s : State) : Host.Outcome State Fault Refusal :=
  act s fun s => s.receive { cls := 7, header := h, payload := [] } (sampleStraps pins)

/-- FAULT_FRAME_RECEIVED (R150): a good frame of class 0 with three words, used by no block. -/
def execFaultFrameReceived (h : Header) (w0 w1 w2 : Word16) (s : State) : Host.Outcome State Fault Refusal :=
  act s fun s => s.receive { cls := 0, header := h, payload := [w0, w1, w2] } s.straps

/-- FRAME_PASSED_OVER (R150): a good frame of another station that is addressed elsewhere, or that no block uses. -/
def execFramePassedOver (f : Frame) (s : State) : Host.Outcome State Fault Refusal :=
  act s fun s =>
    if f.header.source ≠ s.straps.address ∧ (accepted s.straps.address f = false ∨ frameUse f = .unused) then
      s.receive f s.straps
    else s

/-- ADDRESS_CLASH (R153): a good frame that carries the part's own source address. -/
def execAddressClash (f : Frame) (s : State) : Host.Outcome State Fault Refusal :=
  act s fun s => if f.header.source = s.straps.address then s.receive f s.straps else s

/-- FRAME_DISCARDED (R147, R148, R152): the bits read since the start bit end at a framing error, an illegal length or a bad
check. Where no frame of another station can be read, nothing is discarded (R145). -/
def execFrameDiscarded (bits : List Bool) (s : State) : Host.Outcome State Fault Refusal :=
  act s fun s => s.discard bits

/-- LINK_ERRORS (R152): the discard that brings the discard run to 3. -/
def execLinkErrors (s : State) : Host.Outcome State Fault Refusal :=
  act s fun s => if bump 3 s.link.discardRun = 3 then s.modLink Link.countDiscard else s

/-- LINK_ERRORS_CLEARED (R152): the good frame that brings the good run to 16 while link-errors is set. -/
def execLinkErrorsCleared (s : State) : Host.Outcome State Fault Refusal :=
  act s fun s =>
    if s.link.linkErrors = true ∧ bump 16 s.link.goodRun = 16 then s.modLink Link.countGood else s

/-- The ticks until the next bit boundary, where a bit time begins (R145, R158). -/
def ticksToBoundary (phase : Nat) : Nat := (40 - phase) % 40

/-- SEND_START (R158): the arbiter starts at the next bit boundary, if every condition holds there and a content waits. -/
def execSendStart (s : State) : Host.Outcome State Fault Refusal :=
  act s fun s =>
    let u := s.elapse (ticksToBoundary s.timers.bitPhase)
    if u.link.mayStart = true ∧ u.link.choose.isSome = true then u.modLink Link.start else s

/-- LOST_ARBITRATION (R159): a bit of the tag sent recessive reads dominant. -/
def execLostArbitration (bit : Nat) (s : State) : Host.Outcome State Fault Refusal :=
  act s fun s => s.loseArbitration bit

/-- BIT_ERROR (R160, R161): a sent bit reads back wrong outside arbitration. -/
def execBitError (bit : Nat) (s : State) : Host.Outcome State Fault Refusal :=
  act s fun s => s.failBit bit

/-- The slot of the frame being sent stands one failed attempt below the drop (R161). -/
def Link.atLastAttempt (l : Link) : Bool :=
  match l.transmitter with
  | .free => false
  | .sending k _ => decide (8 ≤ (l.slot k).attempts + 1)

/-- SLOT_DROP (R161): the bit error that brings the failed-attempt count to 8. -/
def execSlotDrop (bit : Nat) (s : State) : Host.Outcome State Fault Refusal :=
  act s fun s => if s.link.atLastAttempt = true then s.failBit bit else s

/-- TRANSMISSION_COMPLETE (R162, R113). -/
def execTransmissionComplete (s : State) : Host.Outcome State Fault Refusal :=
  act s State.completeTransmission

/-- The line held dominant until the dominant run reaches 40 (R154). A frame being read, and one that the first of these reads
opens on an idle line (R145), ends at its next spacer or end bit, a framing error, which is counted but for the remains of the
part's own (R147, R151, R152). -/
def Link.stick (l : Link) : Link :=
  let l' := { l with reading := .no, gapCount := 0 }
  let l' := match l.reading with
    | .no => if l.idle then l'.countDiscard else l'
    | .frame => l'.countDiscard
    | .ownRemains => l'
  { l' with dominantRun := 40, busStuck := true }

/-- BUS_STUCK (R154): the dominant reads pass that bring the dominant run to 40. A frame of the part's own ends before that, by
lost arbitration or a bit error. -/
def execBusStuck (s : State) : Host.Outcome State Fault Refusal :=
  act s fun s =>
    if s.link.transmitter = .free ∧ s.link.dominantRun < 40 then
      (s.passDominant (40 - s.link.dominantRun)).modLink Link.stick
    else s

/-- BUS_STUCK_CLEARED (R154, R145): the recessive reads pass that bring the gap count to 11, which makes the line idle and clears
the flag. No frame is being read or sent then. -/
def execBusStuckCleared (s : State) : Host.Outcome State Fault Refusal :=
  act s fun s =>
    if s.link.quiet = true ∧ s.link.gapCount < 11 then
      s.elapse (ticksToRead s.timers.bitPhase + 40 * (10 - s.link.gapCount))
    else s

/-- STATUS_TIMER_EXPIRY (R156): the timer comes to its end, has started again from 0, and a STATUS frame is queued. -/
def execStatusTimerExpiry (s : State) : Host.Outcome State Fault Refusal :=
  act s fun s =>
    match s.timers.status with
    | none => s
    | some c =>
      ((s.elapse (c.toEnd 500000)).modTimers fun t => { t with status := t.status.map Cyclic.take }).queueStatus

/-- FAULT_PULSE_EXPIRY (R178): the timer stops, which releases FAULT_N in pulse mode. -/
def execFaultPulseExpiry (s : State) : Host.Outcome State Fault Refusal :=
  act s fun s =>
    match s.timers.pulse with
    | none => s
    | some n => (s.elapse (ticksLeft millisecond n)).modTimers fun t => { t with pulse := none }

/-- START_BIT (R145): a dominant bit is read while the part sends nothing and reads no frame. The bit timing resynchronises at a
change of the line from recessive. -/
def execStartBit (s : State) : Host.Outcome State Fault Refusal :=
  act s fun s =>
    if s.link.transmitter = .free ∧ s.link.reading = .no then
      (s.passDominant 1).modLink Link.dominantBit
    else s

end Sys2Proof.Machine
end

