-- ==== Sys2Proof/Machine/TargetCommands.lean ====
section
/-! DEFINITION. The meanings of the target unit's and the oil budget unit's commands (chapters 3 and 4). -/

namespace Sys2Proof.Machine

/-- TARGET (R44, R45, R150): a good frame of class 1 with three words. -/
def execTarget (h : Header) (mode intake exhaust : Word16) (s : State) : Host.Outcome State Fault Refusal :=
  act s fun s => s.receive { cls := 1, header := h, payload := [mode, intake, exhaust] } s.straps

/-- TARGET_STALE (R47): the target unit takes a cycle reference whose step 3 finds the pair stale. -/
def execTargetStale (s : State) : Host.Outcome State Fault Refusal :=
  act s fun s =>
    if s.decoder.crank = .cycleSync ∧ (s.target.transfer s.store.params).grow.isStale s.store.params = true then
      s.targetCycleReference
    else s

/-- OIL_READY (R60): the evaluation at a cycle reference that brings the ready run to 3. -/
def execOilReady (s : State) : Host.Outcome State Fault Refusal :=
  act s fun s =>
    if s.decoder.crank = .cycleSync ∧ s.sense.pressure.isSome = true ∧ s.oilpFault = false ∧
        s.evaluatedOil.readyRun = 3 then
      s.oilConditions
    else s

/-- OIL_LOW (R61): the evaluation at a cycle reference at which oil-low changes from false to true. -/
def execOilLow (s : State) : Host.Outcome State Fault Refusal :=
  act s fun s =>
    if s.decoder.crank = .cycleSync ∧ s.oil.low = false ∧ s.evaluatedOil.low = true then s.oilConditions else s

/-- PEER_ENTRY_EXPIRY (R68): the budget computation at a cycle reference at which the age of the entry of the address passes
16. -/
def execPeerEntryExpiry (addr : Address) (s : State) : Host.Outcome State Fault Refusal :=
  act s fun s =>
    if s.decoder.crank = .cycleSync ∧ (s.oil.peers.any fun e => decide (e.address = addr ∧ 16 ≤ e.age)) = true then
      s.budgetCompute
    else s

/-- STATUS (R67, R150): a good frame of class 3 with seven words. -/
def execStatus (h : Header) (w0 w1 w2 w3 w4 w5 w6 : Word16) (s : State) : Host.Outcome State Fault Refusal :=
  act s fun s => s.receive { cls := 3, header := h, payload := [w0, w1, w2, w3, w4, w5, w6] } s.straps

end Sys2Proof.Machine
end

