-- ==== Sys2Proof/Machine/Dispatch.lean ====
section
/-! DEFINITION. The dispatch of the commands: one arm for each row of spec/opcode_table.json. -/

namespace Sys2Proof.Machine

def exec (i : Instr) (s : State) : Host.Outcome State Fault Refusal :=
  match i with
  | .powerOnReset edge pins => Sys2Proof.Machine.execPowerOnReset edge pins s
  | .filterCandidateOpen pin stamp => Sys2Proof.Machine.execFilterCandidateOpen pin stamp s
  | .glitch pin => Sys2Proof.Machine.execGlitch pin s
  | .filterTimeExpiry pin order => Sys2Proof.Machine.execFilterTimeExpiry pin order s
  | .stallTimerExpiry => Sys2Proof.Machine.execStallTimerExpiry s
  | .crankUnstable => Sys2Proof.Machine.execCrankUnstable s
  | .lossFreeRunExpiry => Sys2Proof.Machine.execLossFreeRunExpiry s
  | .camLost ch => Sys2Proof.Machine.execCamLost ch s
  | .camNoise ch => Sys2Proof.Machine.execCamNoise ch s
  | .target h mode intake exhaust => Sys2Proof.Machine.execTarget h mode intake exhaust s
  | .targetStale => Sys2Proof.Machine.execTargetStale s
  | .oilReady => Sys2Proof.Machine.execOilReady s
  | .oilLow => Sys2Proof.Machine.execOilLow s
  | .peerEntryExpiry addr => Sys2Proof.Machine.execPeerEntryExpiry addr s
  | .status h w0 w1 w2 w3 w4 w5 w6 => Sys2Proof.Machine.execStatus h w0 w1 w2 w3 w4 w5 w6 s
  | .engine h code => Sys2Proof.Machine.execEngine h code s
  | .engineStateStale => Sys2Proof.Machine.execEngineStateStale s
  | .parkPinChange => Sys2Proof.Machine.execParkPinChange s
  | .parkRequestRecognised => Sys2Proof.Machine.execParkRequestRecognised s
  | .releaseSuccess ch => Sys2Proof.Machine.execReleaseSuccess ch s
  | .releaseTimeout ch => Sys2Proof.Machine.execReleaseTimeout ch s
  | .retryHoldExpiry ch => Sys2Proof.Machine.execRetryHoldExpiry ch s
  | .returnArrival ch => Sys2Proof.Machine.execReturnArrival ch s
  | .noReturn ch => Sys2Proof.Machine.execNoReturn ch s
  | .nullTransfer ch => Sys2Proof.Machine.execNullTransfer ch s
  | .trackError ch => Sys2Proof.Machine.execTrackError ch s
  | .pwmPeriodStart ch => Sys2Proof.Machine.execPwmPeriodStart ch s
  | .onTimeEnd ch => Sys2Proof.Machine.execOnTimeEnd ch s
  | .overcurrent ch current => Sys2Proof.Machine.execOvercurrent ch current s
  | .openCoilBlankingExpiry ch => Sys2Proof.Machine.execOpenCoilBlankingExpiry ch s
  | .openCoil ch => Sys2Proof.Machine.execOpenCoil ch s
  | .currentSample ch code => Sys2Proof.Machine.execCurrentSample ch code s
  | .oilpSample code => Sys2Proof.Machine.execOilpSample code s
  | .oilpSensor code => Sys2Proof.Machine.execOilpSensor code s
  | .vsupSample code => Sys2Proof.Machine.execVsupSample code s
  | .tdieSample code => Sys2Proof.Machine.execTdieSample code s
  | .clear h w => Sys2Proof.Machine.execClear h w s
  | .config h id value => Sys2Proof.Machine.execConfig h id value s
  | .close h => Sys2Proof.Machine.execClose h s
  | .restart h pins => Sys2Proof.Machine.execRestart h pins s
  | .faultFrameReceived h w0 w1 w2 => Sys2Proof.Machine.execFaultFrameReceived h w0 w1 w2 s
  | .framePassedOver f => Sys2Proof.Machine.execFramePassedOver f s
  | .addressClash f => Sys2Proof.Machine.execAddressClash f s
  | .frameDiscarded bits => Sys2Proof.Machine.execFrameDiscarded bits s
  | .linkErrors => Sys2Proof.Machine.execLinkErrors s
  | .linkErrorsCleared => Sys2Proof.Machine.execLinkErrorsCleared s
  | .sendStart => Sys2Proof.Machine.execSendStart s
  | .lostArbitration bit => Sys2Proof.Machine.execLostArbitration bit s
  | .bitError bit => Sys2Proof.Machine.execBitError bit s
  | .slotDrop bit => Sys2Proof.Machine.execSlotDrop bit s
  | .transmissionComplete => Sys2Proof.Machine.execTransmissionComplete s
  | .busStuck => Sys2Proof.Machine.execBusStuck s
  | .busStuckCleared => Sys2Proof.Machine.execBusStuckCleared s
  | .statusTimerExpiry => Sys2Proof.Machine.execStatusTimerExpiry s
  | .faultPulseExpiry => Sys2Proof.Machine.execFaultPulseExpiry s
  | .startBit => Sys2Proof.Machine.execStartBit s

end Sys2Proof.Machine
end

