-- ==== Sys2Proof/Safety.lean ====
section
/-! DEFINITION. What counts as a safe state of the CP-224: the whole-machine rules of the manual's prose, each as one property
of a state. Each is meant to hold right after reset and to be kept by every step. -/

namespace Sys2Proof.Safety

open Sys2Proof.Machine

/-- A frame of another station can be received (R145, R150, R174): the part is not held in reset and sends nothing, and either
a frame is being read or the line is idle, so that a frame's start bit opens one. -/
def Hears (s : State) : Prop :=
  s.supplyLow = false ∧ s.link.transmitter = .free ∧ (s.link.reading ≠ .no ∨ s.link.gapCount = 11)

/-- A channel is in FAULT exactly when its fault set is non-empty (R92). -/
def FaultStateAgrees (s : State) : Prop :=
  ∀ ch, s.channelState ch = .fault ↔ (s.faults.channel.get ch).isEmpty = false

/-- A channel is in RELEASING or TRACKING only while every run condition holds (R76). -/
def RunConditionsHold (s : State) : Prop :=
  ∀ ch, (s.channelState ch).running = true → s.runConditions ch = true

/-- A current command lies in 0..Imax_eff, and is 0 in PARKED, RETURNING and FAULT (R99). -/
def CommandBounded (s : State) : Prop :=
  ∀ ch, s.command ch ≤ s.imaxEff ∧ ((s.channelState ch).running = false → s.command ch = 0)

/-- While the configuration window is open the crank has not reached REV_SYNC, the active pair is 0 and 0 and the step is 0
(R170, section 3.1, R172). -/
def WindowSound (s : State) : Prop :=
  s.store.windowOpen = true →
    s.decoder.crank.synced = false ∧ s.target.active = Pair.both 0 ∧ s.oil.step = 0

/-- The effective targets sum to at most the overlap limit, each lies in 0..its channel's maximum (R52) and is 0 outside
TRACKING (R49); the active targets keep the same bounds (R43, R46); the target age is at most 255 (R43). -/
def TargetsBounded (s : State) : Prop :=
  s.target.effective.a + s.target.effective.b ≤ (s.store.params.overlapLimit : Int) ∧
    s.target.active.a + s.target.active.b ≤ (s.store.params.overlapLimit : Int) ∧
    s.target.age ≤ 255 ∧
    ∀ ch,
      0 ≤ s.target.effective.get ch ∧ s.target.effective.get ch ≤ (s.channelMax ch : Int) ∧
        0 ≤ s.target.active.get ch ∧ s.target.active.get ch ≤ (s.channelMax ch : Int) ∧
        (s.channelState ch ≠ .tracking → s.target.effective.get ch = 0)

/-- The integrator lies in −300..300 (R105), the learned null in 200..800 (R109), the last error in −1000..1000 and the two
counts in 0..40 (R98). -/
def ControlBounded (s : State) : Prop :=
  ∀ ch,
    let c := s.controllers.get ch;
    -300 ≤ c.integrator ∧ c.integrator ≤ 300 ∧ 200 ≤ c.learnedNull ∧ c.learnedNull ≤ 800 ∧
      (∀ e, c.lastError = some e → -1000 ≤ e ∧ e ≤ 1000) ∧ c.stationary ≤ 40 ∧ c.trackErrors ≤ 40

/-- The duty and the drive-saturated flag are what R120 computes from the command, the resistance estimate, the cuts and the
supply in force; a duty of 0 leaves the output off, and an on-time is at most a period (R121). -/
def DutyCurrent (s : State) : Prop :=
  ∀ ch,
    let d := s.drivers.get ch;
    (d.duty, d.saturated) = dutyOf (s.command ch) d.rEst (s.driverCut ch) s.sense.supply ∧
      (d.duty = 0 → d.output = false) ∧ d.onTime ≤ 2500

/-- Each resistance estimate lies within 7/10 to 16/10 of the configured coil resistance (R123), and each open-coil run is
below 4 (R126). -/
def ResistanceBounded (s : State) : Prop :=
  ∀ ch,
    rEstMin s.store.params.coilResistance ≤ (s.drivers.get ch).rEst ∧
      (s.drivers.get ch).rEst ≤ rEstMax s.store.params.coilResistance ∧ (s.drivers.get ch).openRun ≤ 3

/-- The peer table: at most one entry for each address, none for the own address, claims in 0..30 and ages in 0..16
(R66, R67, R68). -/
def PeerTableSound (s : State) : Prop :=
  s.oil.peers.Pairwise (fun e f => e.address.toNat < f.address.toNat) ∧
    ∀ e ∈ s.oil.peers, e.address ≠ s.straps.address ∧ e.claim ≤ 30 ∧ e.age ≤ 16

/-- The other items of the oil budget unit stay in the ranges of R58; the step is 0 whenever the budget is 0 (R68), and
oil-ready and oil-low are never true together (R60). -/
def OilSound (s : State) : Prop :=
  s.oil.readyRun ≤ 3 ∧ s.oil.lowRun ≤ 2 ∧ s.oil.ownClaim ≤ 30 ∧ s.oil.demand ≤ 240 ∧ s.oil.budget ≤ 60 ∧
    s.oil.step ≤ s.store.params.slewMax ∧ (s.oil.budget = 0 → s.oil.step = 0) ∧
    ¬(s.oil.ready = true ∧ s.oil.low = true)

/-- The decoder's items are present in the crank states R5 names, and in their ranges, but for the lower bound 1 of P_ref, which
holds only of crank edges that lie apart (log entry 4). -/
def DecoderSound (s : State) : Prop :=
  let d := s.decoder;
  (d.tooth.isSome = d.crank.synced) ∧ (d.half.isSome = decide (d.crank = .cycleSync)) ∧
    (d.crank.synced = true → d.pRef.isSome = true) ∧
    (d.lastEdge.isSome = decide (d.crank ≠ .stopped)) ∧ (d.stallRunning = decide (d.crank ≠ .stopped)) ∧
    (d.crank = .stopped → d.pRef = none) ∧ (d.crank.synced = false → d.prevCam = Pair.both none) ∧
    (∀ i, d.tooth = some i → i ≤ 27) ∧ (∀ ch r, d.prevCam.get ch = some r → r ≤ 3599) ∧
    (∀ p, d.pRef = some p → p ≤ 1048575) ∧ d.lossCounter ≤ 4 ∧ d.lossFreeRun ≤ 255

/-- The phase meters' items stay in the ranges of R24 (R34); the phase estimate is present only in CYCLE_SYNC (R40), and the
park-watch flag is set only in CYCLE_SYNC with the channel PARKED (R31). -/
def MeterSound (s : State) : Prop :=
  ∀ ch,
    let m := s.meters.get ch;
    (∀ o, m.parkOffset = some o → -100 ≤ o ∧ o ≤ 100) ∧
      (∀ k, -30 ≤ m.corr.get k ∧ m.corr.get k ≤ 30) ∧
      (∀ k, -3600 ≤ (m.ring.get k).raw ∧ (m.ring.get k).raw ≤ 3599) ∧
      (∀ p, m.estimate = some p → -3600 ≤ p ∧ p ≤ 3599 ∧ s.decoder.crank = .cycleSync) ∧
      m.strayCount ≤ 255 ∧ m.missing ≤ 4 ∧
      (m.parkWatch = true → s.decoder.crank = .cycleSync ∧ s.channelState ch = .parked)

/-- The timers stay in their ranges (R119, R133, R149, R178, R145). The STATUS timer runs exactly while the crank is not in
CYCLE_SYNC (R156), and the recognition time of the PARK pin runs exactly while the pin holds a level other than the
recognised one (R80). -/
def TimersSound (s : State) : Prop :=
  let t := s.timers;
  t.pwm < 2500 ∧ t.slot.ticks < 500 ∧ t.slotIndex ≤ 9 ∧ t.bitPhase < 40 ∧
    (∀ c, t.status = some c → c.ticks < 500000) ∧ (∀ ch, t.sinceOn.get ch ≤ 80) ∧
    (∀ n, t.pulse = some n → n ≤ 10000) ∧ (∀ n, t.park = some n → n ≤ 10000) ∧
    (∀ ch n, t.blanking.get ch = some n → n ≤ 10000) ∧
    (t.status.isSome = decide (s.decoder.crank ≠ .cycleSync)) ∧
    (t.park.isSome = decide (s.engine.parkPin ≠ recognisedLevel s.engine.parkRequest))

/-- The sequencers' and the engine store's items stay in the ranges of R74. -/
def SequencerSound (s : State) : Prop :=
  s.engine.age ≤ 255 ∧
    ∀ ch,
      let q := s.sequencers.get ch;
      q.attempts ≤ 3 ∧ q.retryHold ≤ 2 ∧ q.releaseCount ≤ 8 ∧ q.successRun ≤ 2 ∧ q.returnCount ≤ 60 ∧ q.returnRun ≤ 3

/-- The link controller's items stay in the ranges of R149. A content's on-line mark is set only while the transmitter sends
a frame copied from that slot (R155, R158), so that at most one frame of the part's own is on the line; an empty slot has no
mark and no failed attempts; and under the transmit silence every slot is empty and the transmitter free (R153). -/
def LinkSound (s : State) : Prop :=
  let l := s.link;
  l.gapCount ≤ 11 ∧ l.discardRun ≤ 3 ∧ l.goodRun ≤ 16 ∧ l.dominantRun ≤ 40 ∧
    l.faultOrder.Perm [SlotName.faultStation, SlotName.faultA, SlotName.faultB] ∧
    (∀ k, (l.slot k).attempts ≤ 7) ∧
    (∀ k, (l.slot k).content = none → l.slot k = Slot.empty) ∧
    (∀ k, (l.slot k).onLine = true → ∃ f, l.transmitter = .sending k f ∧ (l.slot k).content = some f) ∧
    (∀ k f, l.transmitter = .sending k f → (l.slot k).content.isSome = true ∧ l.reading = .frame) ∧
    (l.silence = true → l.transmitter = .free ∧ ∀ k, l.slot k = Slot.empty)

/-- Every parameter lies in its range (R168), and the check value is the sum of the twenty (R171). -/
def ParamsSound (s : State) : Prop :=
  (∀ id lo hi, paramRange id = some (lo, hi) → lo ≤ s.store.params.get id ∧ s.store.params.get id ≤ hi) ∧
    s.store.checkValue = s.store.params.check

/-- The sense sequencer's items stay in the ranges of R133. -/
def SenseSound (s : State) : Prop :=
  let n := s.sense;
  n.rangeRun ≤ 7 ∧ (∀ ch i, n.currents.get ch = some i → i ≤ 2999) ∧
    (∀ p, n.pressure = some p → 0 ≤ p ∧ p ≤ 1000) ∧ (∀ v, n.supply = some v → 0 ≤ v ∧ v ≤ 19995) ∧
    (∀ t, n.temperature = some t → -50 ≤ t ∧ t ≤ 199)

end Sys2Proof.Safety
end

