-- ==== Sys2Proof/Certificates/Slice0/Obligations.lean ====
section
/-! DEFINITION. The statements about the CP-224, for the provers. Every statement about a command's effect supposes VDD above the
reset threshold (`s.supplyLow = false`), the condition under which R174 lets the part run. Such a statement gives the whole
next state, so that it is the command's frame as well. -/

open Sys2Proof Sys2Proof.Machine Sys2Proof.Safety

/-! ### The machine -/

/-- A step takes the command at the front of the queue and carries it out on the state with the queue's rest. -/
def Obligations.StepRunsFrontCommand : Prop :=
  ∀ (c : Instr) (rest : List Instr) (s : State), s.pending = c :: rest → step s = exec c { s with pending := rest }

/-- The model's choice (log entry 2): a step on an empty queue lets one tick of the time base pass. n ticks advance the
time base, which wraps at 32 bits, and the free-running period, slot, bit and STATUS timers, which wrap at their ends and
count the ends whose commands have not been taken; the pulse, the PARK pin's time and the blankings, while they run, come up to
their 1 ms and stand there, and the on-times of the comparators up to 8 µs. The ticks are read as recessive bits by a controller
that neither reads nor sends a frame; no item but the timers and three of the link controller's changes (00_scope.md, R1, R80,
R121, R124, R126, R133, R134, R145, R154, R156, R178). -/
def Obligations.EmptyQueueTick : Prop :=
  ∀ s : State,
    (s.pending = [] → s.supplyLow = false → step s = .next (s.elapse 1)) ∧
      (s.pending = [] → s.supplyLow = true → step s = .next s) ∧
      ∀ n,
        let u := s.elapse n;
        let reads := (s.timers.bitPhase + n + 10) / 40 - (s.timers.bitPhase + 10) / 40;
        let runs : Option Nat → Option Nat := fun t => match t with | none => none | some k => some (min 10000 (k + n));
        u = { s with timers := u.timers, link := u.link } ∧
          u.link =
            (if s.link.reading = .no ∧ s.link.transmitter = .free ∧ 0 < reads then
              { s.link with
                gapCount := min 11 (s.link.gapCount + reads), dominantRun := 0
                busStuck := s.link.busStuck && decide (s.link.gapCount + reads < 11) }
            else s.link) ∧
          u.timers.timeBase = s.timers.timeBase + BitVec.ofNat 32 n ∧
          u.timers.pwm = (s.timers.pwm + n) % 2500 ∧
          u.timers.periodsOwed.a = s.timers.periodsOwed.a + (s.timers.pwm + n) / 2500 ∧
          u.timers.periodsOwed.b = s.timers.periodsOwed.b + ((s.timers.pwm + 1250) % 2500 + n) / 2500 ∧
          u.timers.bitPhase = (s.timers.bitPhase + n) % 40 ∧
          (s.timers.slotIndex ≤ 9 → s.timers.slot.ticks < 500 →
            u.timers.slotIndex ≤ 9 ∧ u.timers.slot.ticks < 500 ∧
              500 * u.timers.slotIndex + u.timers.slot.ticks =
                (500 * s.timers.slotIndex + s.timers.slot.ticks + n) % 5000) ∧
          u.timers.slot.owed = s.timers.slot.owed + (s.timers.slot.ticks + n) / 500 ∧
          u.timers.sinceOn = ⟨min 80 (s.timers.sinceOn.a + n), min 80 (s.timers.sinceOn.b + n)⟩ ∧
          u.timers.pulse = runs s.timers.pulse ∧ u.timers.park = runs s.timers.park ∧
          u.timers.blanking = ⟨runs s.timers.blanking.a, runs s.timers.blanking.b⟩ ∧
          (s.timers.status = none → u.timers.status = none) ∧
          ∀ c,
            s.timers.status = some c →
              u.timers.status = some ⟨(c.ticks + n) % 500000, c.owed + (c.ticks + n) / 500000⟩

/-- POWER_ON_RESET (R174, R167): at the fall, and at the rise that releases a part held in reset, every item takes its reset
value, and the rise samples the strap pins; while VDD stands below the threshold no other command has an effect, but for the
level of the PARK pin, which is the outside's and moves on (R80). The queue and that level are what the reset keeps, the
model's choice (log entry 10); that a rise on a part not held in reset changes nothing is its reading (log entry 16). -/
def Obligations.PowerOnResetEffect : Prop :=
  ∀ s : State,
    let fresh : State :=
      { State.reset with
        pending := s.pending
        engine := { State.reset.engine with parkPin := s.engine.parkPin }
        timers := { State.reset.timers with park := if s.engine.parkPin = .low then some 0 else none } };
    (∀ pins, s.supplyLow = true →
        exec (.powerOnReset .rises pins) s =
          .next
            { fresh with
              straps :=
                { address :=
                    BitVec.ofBool (decide (pins.addr2 = .high)) ++ BitVec.ofBool (decide (pins.addr1 = .high)) ++
                      BitVec.ofBool (decide (pins.addr0 = .high))
                  role := if pins.role = .low then .front else .rear
                  faultLine := if pins.fltmode = .low then .level else .pulse } }) ∧
      (∀ pins, s.supplyLow = false → exec (.powerOnReset .rises pins) s = .next s) ∧
      (∀ pins, exec (.powerOnReset .falls pins) s = .next { fresh with straps := s.straps, supplyLow := true }) ∧
      (s.supplyLow = true →
        (∀ c, (∀ edge pins, c ≠ .powerOnReset edge pins) → c ≠ .parkPinChange → exec c s = .next s) ∧
          ∃ park,
            exec .parkPinChange s =
              .next
                { s with
                  engine := { s.engine with parkPin := if s.engine.parkPin = .high then .low else .high }
                  timers := { s.timers with park := park } })

/-- The values right after reset that the state tables of the chapters give. -/
def Obligations.ResetTableValues : Prop :=
  let r := State.reset;
  r.timers.timeBase = 0 ∧ r.timers.pwm = 0 ∧ r.timers.slot = ⟨0, 0⟩ ∧ r.timers.slotIndex = 0 ∧
    r.timers.status = some ⟨0, 0⟩ ∧ r.timers.pulse = none ∧ r.timers.blanking = Pair.both none ∧
    r.filters =
      { crank := ⟨.high, none⟩, camA := ⟨.high, none⟩, camB := ⟨.high, none⟩ } ∧
    r.decoder =
      { crank := .stopped, lastEdge := none, pRef := none, tooth := none, half := none, stallRunning := false,
        prevCam := Pair.both none, cycleNumber := 0, lossCounter := 0, lossFreeRun := 0 } ∧
    (∀ ch,
      (r.meters.get ch).parkOffset = none ∧ (∀ k, (r.meters.get ch).corr.get k = 0) ∧
        (∀ k, ((r.meters.get ch).ring.get k).valid = false) ∧ (r.meters.get ch).estimate = none ∧
        (r.meters.get ch).strayCount = 0 ∧ (r.meters.get ch).edgeSeen = false ∧ (r.meters.get ch).missing = 0 ∧
        (r.meters.get ch).parkWatch = false) ∧
    r.target =
      { pendingSlot := none, mode := .park, active := ⟨0, 0⟩, age := 255, effective := ⟨0, 0⟩,
        moveOpen := ⟨false, false⟩ } ∧
    r.oil =
      { ready := false, low := false, readyRun := 0, lowRun := 0, ownClaim := 0, demand := 0, budget := 0, step := 0,
        limiting := false, peers := [] } ∧
    r.engine.engine = .stopped ∧ r.engine.age = 255 ∧ r.engine.parkRequest = true ∧
    (∀ ch,
      r.sequencers.get ch = ⟨.parked, 3, 0, 0, 0, 0, 0⟩ ∧ r.controllers.get ch = ⟨0, 480, none, 0, 0, 0, false⟩ ∧
        (r.drivers.get ch).rEst = 750 ∧ (r.drivers.get ch).duty = 0 ∧ (r.drivers.get ch).saturated = false ∧
        (r.drivers.get ch).output = false ∧ (r.drivers.get ch).trip = false ∧ (r.drivers.get ch).openRun = 0) ∧
    r.conditions = ⟨false, false, false⟩ ∧ r.sense = ⟨⟨none, none⟩, none, none, none, 0⟩ ∧
    r.link =
      { gapCount := 0, reading := .no, discardRun := 0, goodRun := 0, linkErrors := false, dominantRun := 0,
        busStuck := false, silence := false, transmitter := .free, faultOrder := [.faultStation, .faultA, .faultB],
        status := ⟨none, false, 0⟩, faultA := ⟨none, false, 0⟩, faultB := ⟨none, false, 0⟩,
        faultStation := ⟨none, false, 0⟩ } ∧
    r.store.windowOpen = true ∧ r.store.checkValue = 6990 ∧
    (List.range 20).map r.store.params.get =
      [700, 500, 400, 24, 8, 20, 5, 480, 1000, 750, 150, 60, 80, 5, 2000, 1, 1, 2, 4, 800] ∧
    r.faults.allEmpty = true ∧ r.faultNLow = false ∧ r.st0Low = false ∧ r.st1Low = false

/-! ### The angle decoder -/

/-- FILTER_CANDIDATE_OPEN (R2, R4): the time up to the stamp passes, and a candidate opens with the stamp and the filter
time that parameter 15 gives now; a pin whose candidate is open stands at its other level already. GLITCH (R3, R36): the
open candidate closes and the recognised level stays; a cam glitch counts at its meter in REV_SYNC and CYCLE_SYNC.
FILTER_TIME_EXPIRY (R2): the rest of the filter time passes, the recognised level takes the new value, and a falling
change is delivered as an edge that carries the stored time stamp; a rising one is not. An edge on CAMA is channel A's, one
on CAMB channel B's (R15). How much time a command lets pass is the model's choice, and so is that a GLITCH taken when the
filter time has already passed still closes the candidate unrecognised (log entry 2); that the opening of an open candidate,
and the glitch and the expiry of none, change nothing is its reading (log entry 5). -/
def Obligations.InputFilterCommands : Prop :=
  ∀ (pin : AnglePin) (stamp : Tick) (order : List CycleBlock) (s : State),
    (s.deliverEdge .crank stamp order = s.crankEdge stamp order ∧ s.deliverEdge .camA stamp order = s.camEdge .a stamp ∧
        s.deliverEdge .camB stamp order = s.camEdge .b stamp) ∧
      (s.supplyLow = false →
        filterTicks 0 = 20 ∧ filterTicks 1 = 40 ∧ filterTicks 2 = 80 ∧ filterTicks 3 = 160 ∧
          ((s.filters.get pin).candidate = none →
            exec (.filterCandidateOpen pin stamp) s =
                .next
                  ((s.elapse (stamp - s.timers.timeBase).toNat).modFilters fun fs =>
                    fs.set pin ⟨(s.filters.get pin).level, some ⟨stamp, filterTicks s.store.params.filterCode⟩⟩) ∧
              exec (.glitch pin) s = .next s ∧ exec (.filterTimeExpiry pin order) s = .next s) ∧
          ∀ c,
            (s.filters.get pin).candidate = some c →
              let closed := s.modFilters fun fs => fs.set pin ⟨(s.filters.get pin).level, none⟩;
              let passed := s.elapse (c.filterTime - (s.timers.timeBase - c.stamp).toNat);
              exec (.filterCandidateOpen pin stamp) s = .next s ∧
                (camChannel pin = none → exec (.glitch pin) s = .next closed) ∧
                (∀ ch,
                  camChannel pin = some ch →
                    exec (.glitch pin) s =
                      .next
                        (if s.decoder.crank = .revSync ∨ s.decoder.crank = .cycleSync then
                          closed.modMeter ch fun m => { m with strayCount := min 255 (m.strayCount + 1) }
                        else closed)) ∧
                ((s.filters.get pin).level = .low →
                  exec (.filterTimeExpiry pin order) s = .next (passed.modFilters fun fs => fs.set pin ⟨.high, none⟩)) ∧
                ((s.filters.get pin).level = .high →
                  exec (.filterTimeExpiry pin order) s =
                    .next ((passed.modFilters fun fs => fs.set pin ⟨.low, none⟩).deliverEdge pin c.stamp order)))

/-- Crank edges in STOPPED and GAP_SEEK (R6, R7, R8): the interval from the last accepted edge saturates at 1,048,575 (R1);
noise is ignored, the first edge starts the search, the gap gains REV_SYNC, and any other accepted edge renews P_ref. -/
def Obligations.CrankEdgesWithoutSync : Prop :=
  ∀ (t : Tick) (order : List CycleBlock) (s : State),
    let gap := s.decoder.interval t;
    (∀ t0, s.decoder.lastEdge = some t0 → gap = min (t - t0).toNat 1048575) ∧
      (s.decoder.crank = .stopped → s.decoder.pRef = none →
        s.crankEdge t order =
          s.modDecoder fun d => { d with crank := .gapSeek, lastEdge := some t, stallRunning := true }) ∧
      (s.decoder.crank = .gapSeek → s.decoder.pRef = none →
        s.crankEdge t order =
          s.modDecoder fun d => { d with pRef := some gap, lastEdge := some t, stallRunning := true }) ∧
      ∀ p,
        s.decoder.pRef = some p →
          (gap < p / 4 → s.crankEdge t order = s) ∧
            (s.decoder.crank = .gapSeek → p / 4 ≤ gap → (gap < 2 * p ∨ 4 * p < gap) →
              s.crankEdge t order =
                s.modDecoder fun d => { d with pRef := some gap, lastEdge := some t, stallRunning := true }) ∧
            (s.decoder.crank = .gapSeek → p / 4 ≤ gap → 2 * p ≤ gap → gap ≤ 4 * p →
              s.crankEdge t order =
                { s with
                  decoder :=
                    { s.decoder with
                      crank := .revSync, tooth := some 0, pRef := some (gap / 3), half := none
                      prevCam := Pair.both none, lastEdge := some t, stallRunning := true }
                  meters :=
                    { a := { s.meters.a with edgeSeen := false }, b := { s.meters.b with edgeSeen := false } }
                  store := { s.store with windowOpen := false } })

/-- Crank edges in REV_SYNC and CYCLE_SYNC (R9, R10, R20, R22): the interval saturates (R1); the next tooth, the gap that
closes a revolution and the cycle reference, and the tooth errors. At "revolution complete" each meter tests its edge-seen
flag (R38, R39). At the cycle reference every block takes it once, with its own action: in the command's order, and the
blocks which that does not name after those it names, the model's choice (log entry 3). -/
def Obligations.CrankEdgesWithSync : Prop :=
  ∀ (t : Tick) (order : List CycleBlock) (i p : Nat) (s : State),
    let gap := s.decoder.interval t;
    let zero : Decoder :=
      { s.decoder with tooth := some 0, pRef := some (gap / 3), lastEdge := some t, stallRunning := true };
    (∀ t0, s.decoder.lastEdge = some t0 → gap = min (t - t0).toNat 1048575) ∧
      ((s.decoder.crank = .revSync ∨ s.decoder.crank = .cycleSync) →
        s.decoder.tooth = some i → s.decoder.pRef = some p → p / 4 ≤ gap →
          (i < 27 → gap < 2 * p →
              s.crankEdge t order =
                s.modDecoder fun d =>
                  { d with tooth := some (i + 1), pRef := some gap, lastEdge := some t, stallRunning := true }) ∧
            (i < 27 → 2 * p ≤ gap → s.crankEdge t order = s.toothError t) ∧
            (i = 27 → (gap < 2 * p ∨ 4 * p < gap) → s.crankEdge t order = s.toothError t) ∧
            (i = 27 → 2 * p ≤ gap → gap ≤ 4 * p → s.decoder.crank = .revSync →
              s.crankEdge t order = (s.modDecoder fun _ => zero).publishRevolution) ∧
            (i = 27 → 2 * p ≤ gap → gap ≤ 4 * p → s.decoder.crank = .cycleSync → s.decoder.half = some .zero →
              s.crankEdge t order = (s.modDecoder fun _ => { zero with half := some .one }).publishRevolution) ∧
            (i = 27 → 2 * p ≤ gap → gap ≤ 4 * p → s.decoder.crank = .cycleSync → s.decoder.half = some .one →
              s.crankEdge t order =
                ((s.modDecoder fun _ =>
                  { zero with
                    half := some .zero
                    cycleNumber := s.decoder.cycleNumber + 1
                    lossCounter :=
                      if 255 ≤ s.decoder.lossFreeRun then s.decoder.lossCounter - 1 else s.decoder.lossCounter
                    lossFreeRun :=
                      if 255 ≤ s.decoder.lossFreeRun then 0
                      else s.decoder.lossFreeRun + 1 }).publishRevolution).cycleReference
                  order)) ∧
      (s.publishRevolution = (s.revolutionTest .a).revolutionTest .b ∧
        ∀ ch,
          let n :=
            if (s.meters.get ch).edgeSeen = true then (s.meters.get ch).missing
            else min 4 ((s.meters.get ch).missing + 1);
          let tested := s.modMeter ch fun m => { m with missing := n, edgeSeen := false };
          s.revolutionTest ch = (if n = 4 then tested.latchChannel ch .camLost else tested)) ∧
      (s.cycleReference order = (blockOrder order).foldl State.takeCycleReference s ∧ (blockOrder order).Nodup ∧
        (∀ b, b ∈ blockOrder order) ∧ (order.Nodup → order <+: blockOrder order) ∧
        s.takeCycleReference .meterA = s.meterCycleReference .a ∧
        s.takeCycleReference .meterB = s.meterCycleReference .b ∧
        s.takeCycleReference .target = s.targetCycleReference ∧
        s.takeCycleReference .oil = s.oilCycleReference ∧
        s.takeCycleReference .sequencer = s.sequencerCycleReference ∧
        s.takeCycleReference .driverA = s.resistanceTrim .a ∧
        s.takeCycleReference .driverB = s.resistanceTrim .b ∧
        s.takeCycleReference .statusAssembly =
          (if s.link.silence = true then s
          else
            s.modLink fun l =>
              { l with
                status := ⟨some s.statusFrame, false, if l.status.content = none then 0 else l.status.attempts⟩ }))

/-- A tooth error (R11, R21, R40, R48, R49, R70, R75, R91, R156): what it leaves in the decoder, and what "sync lost" and
the counted loss do at every other block. A loss that leaves the sync-loss counter at 4 latches CRANK_UNSTABLE, whose FAULT
frame is offered (R155, R157) and whose pulse starts in pulse mode (R178). That a return started by the loss leaves its
counts at 0 is the model's reading (log entry 14). -/
def Obligations.ToothErrorEffect : Prop :=
  ∀ (t : Tick) (s : State),
    let u := s.toothError t;
    let latches : Bool := decide (3 ≤ s.decoder.lossCounter) && !s.faults.station.crankUnstable;
    let exits : Channel → Bool := fun ch => !decide (s.channelState ch = .parked ∨ s.channelState ch = .fault);
    u.decoder =
        { s.decoder with
          crank := .gapSeek, tooth := none, half := none, pRef := some (s.decoder.interval t), lastEdge := some t
          stallRunning := true, prevCam := Pair.both none
          lossCounter := min 4 (s.decoder.lossCounter + 1), lossFreeRun := 0 } ∧
      u.faults =
        { s.faults with
          station := { s.faults.station with crankUnstable := s.faults.station.crankUnstable || latches } } ∧
      (∀ ch,
        (∃ ring,
            u.meters.get ch =
              { s.meters.get ch with ring := ring, estimate := none, strayCount := 0, parkWatch := false } ∧
            ∀ k, ring.get k = { (s.meters.get ch).ring.get k with valid := false }) ∧
          u.sequencers.get ch =
            (match s.channelState ch with
              | .parked => s.sequencers.get ch
              | .releasing => { s.sequencers.get ch with state := .parked, returnCount := 0, returnRun := 0 }
              | .tracking => { s.sequencers.get ch with state := .parked, returnCount := 0, returnRun := 0 }
              | .returning => { s.sequencers.get ch with state := .parked }
              | .fault => s.sequencers.get ch) ∧
          u.controllers.get ch =
            (if exits ch then { s.controllers.get ch with command := 0 } else s.controllers.get ch) ∧
          u.drivers.get ch =
            (if exits ch then { s.drivers.get ch with duty := 0, saturated := false, output := false }
            else s.drivers.get ch) ∧
          u.target.effective.get ch =
            (if s.channelState ch = .tracking then 0 else s.target.effective.get ch)) ∧
      u.target.pendingSlot = none ∧ u.target.age = 255 ∧ u.target.mode = .park ∧ u.target.active = Pair.both 0 ∧
      u.target.moveOpen = Pair.both false ∧
      u.oil = { s.oil with ownClaim := 0, demand := 0, limiting := false } ∧
      u.link =
        (if latches && !s.link.silence then
          { s.link with
            faultStation :=
              ⟨some u.stationFaultFrame, false,
                if s.link.faultStation.content = none then 0 else s.link.faultStation.attempts⟩ }
        else s.link) ∧
      u.timers =
        { s.timers with
          status := some ⟨0, 0⟩
          pulse := if latches && decide (s.straps.faultLine = .pulse) then some 0 else s.timers.pulse } ∧
      u.filters = s.filters ∧ u.store = s.store ∧ u.engine = s.engine ∧ u.sense = s.sense ∧ u.straps = s.straps ∧
      u.conditions = s.conditions ∧ u.pending = s.pending ∧ u.supplyLow = s.supplyLow

/-- STALL_TIMER_EXPIRY (R12): the time up to the expiry passes; GAP_SEEK falls back to STOPPED in silence, REV_SYNC and
CYCLE_SYNC with "sync lost"; the counters of losses stay; in STOPPED there is nothing to expire. "Sync lost" acts on the
meters, the target unit, the oil budget unit, the sequencers and the STATUS timer (R40, R48, R70, R91, R156).
CRANK_UNSTABLE (R21): the counted loss that leaves the counter at 4 latches the station fault. LOSS_FREE_RUN_EXPIRY (R22):
the increment that would bring the loss-free run to 256 takes one from the counter, not below 0, and restarts the run. The
time that passes, that a stopped timer's expiry changes nothing, and that the two last commands are the decoder's own step,
are the model's reading (log entries 2, 5 and 7). -/
def Obligations.StallAndLossCounting : Prop :=
  ∀ s : State,
    s.supplyLow = false →
      let passed := s.elapse (1048575 - (s.timers.timeBase - s.decoder.lastEdge.getD 0).toNat);
      let stopped : Decoder :=
        { s.decoder with
          crank := .stopped, lastEdge := none, pRef := none, tooth := none, half := none, stallRunning := false
          prevCam := Pair.both none };
      (s.decoder.stallRunning = false → exec .stallTimerExpiry s = .next s) ∧
        (s.decoder.stallRunning = true → s.decoder.crank = .gapSeek →
          exec .stallTimerExpiry s = .next (passed.modDecoder fun _ => stopped)) ∧
        (s.decoder.stallRunning = true → (s.decoder.crank = .revSync ∨ s.decoder.crank = .cycleSync) →
          exec .stallTimerExpiry s = .next (passed.modDecoder fun _ => stopped).publishSyncLost) ∧
        s.publishSyncLost =
          (let u :=
              { s with
                meters := ⟨s.meters.a.syncLost, s.meters.b.syncLost⟩
                target :=
                  { s.target with
                    pendingSlot := none, age := 255, mode := .park, active := ⟨0, 0⟩, moveOpen := ⟨false, false⟩ }
                oil := { s.oil with ownClaim := 0, demand := 0, limiting := false } };
            ((u.channelSyncLost .a).channelSyncLost .b).modTimers fun t => { t with status := some ⟨0, 0⟩ }) ∧
        (s.decoder.crank ≠ .stopped → 3 ≤ s.decoder.lossCounter →
          exec .crankUnstable s =
            .next ((s.modDecoder fun d => { d with lossCounter := 4, lossFreeRun := 0 }).latchStation .crankUnstable)) ∧
        (s.decoder.crank = .cycleSync → 255 ≤ s.decoder.lossFreeRun →
          exec .lossFreeRunExpiry s =
            .next (s.modDecoder fun d => { d with lossCounter := d.lossCounter - 1, lossFreeRun := 0 }))

/-! ### The phase meters -/

/-- CAM_LOST (R38, R39): a revolution complete that leaves the missing-edge count at 4 clears the edge-seen flag and
latches CAM_LOST. CAM_NOISE (R37): a noise test with a count of 4 or more latches CAM_NOISE and sets the count to 0. That
the command is the meter's own step is the model's reading (log entry 7). -/
def Obligations.CamSupervision : Prop :=
  ∀ (ch : Channel) (s : State),
    s.supplyLow = false →
      ((s.decoder.crank = .revSync ∨ s.decoder.crank = .cycleSync) →
          (if (s.meters.get ch).edgeSeen = true then (s.meters.get ch).missing
            else min 4 ((s.meters.get ch).missing + 1)) = 4 →
            exec (.camLost ch) s =
              .next ((s.modMeter ch fun m => { m with missing := 4, edgeSeen := false }).latchChannel ch .camLost)) ∧
        (s.decoder.crank = .cycleSync → 4 ≤ (s.meters.get ch).strayCount →
          exec (.camNoise ch) s =
            .next ((s.modMeter ch fun m => { m with strayCount := 0 }).latchChannel ch .camNoise))

/-- The nominal edge angles and the head offset, with the expected crank cycle angles of a REAR part and the half of E2
(R16). Wrapping brings an angle into −3600..+3599 by whole engine cycles. Edge assignment (R26): the distances from the
expected angles; the tooth chosen matches within ±180, no matching tooth is nearer, and of equally near ones it has the
lowest number (the angles N_k rise with k); none is chosen exactly when none matches. -/
def Obligations.EdgeAssignment : Prop :=
  ([Tooth.e0, .e1, .e2, .e3, .e4].map nominalAngle = [700, 1600, 1960, 4300, 6100] ∧ headOffset .front = 0 ∧
      headOffset .rear = 2700 ∧
      ([Tooth.e0, .e1, .e2, .e3, .e4].map fun k => (nominalAngle k + headOffset .rear) % 7200) =
        [3400, 4300, 4660, 7000, 1600] ∧
      closePairHalf .front = .zero ∧ closePairHalf .rear = .one) ∧
    (∀ x : Int, -3600 ≤ wrapAngle x ∧ wrapAngle x ≤ 3599 ∧ (x - wrapAngle x) % 7200 = 0) ∧
    ∀ (m : Meter) (ch : Channel) (role : Role) (angle : Nat),
      (∀ k,
          m.distance ch role angle k =
            wrapAngle
              ((angle : Int) -
                (nominalAngle k + headOffset role + m.parkOffset.getD 0 + m.corr.get k +
                    (match ch with | .a => -(m.estimate.getD 0) | .b => m.estimate.getD 0)) %
                  7200)) ∧
        (m.assign ch role angle = none ↔ ∀ k, 180 < (m.distance ch role angle k).natAbs) ∧
        ∀ k,
          m.assign ch role angle = some k →
            (m.distance ch role angle k).natAbs ≤ 180 ∧
              ∀ j,
                (m.distance ch role angle j).natAbs ≤ 180 →
                  (m.distance ch role angle k).natAbs < (m.distance ch role angle j).natAbs ∨
                    ((m.distance ch role angle k).natAbs = (m.distance ch role angle j).natAbs ∧
                      nominalAngle k ≤ nominalAngle j)

/-- Cam edges. The revolution angle (R13): the elapsed time from the last accepted edge, 0 for a stamp before it, and the
advance up to its cap. In STOPPED and GAP_SEEK an edge changes nothing (R15). In REV_SYNC and CYCLE_SYNC its angle becomes the
cam's previous edge angle (R17), the meter sees it (R25), and the later edge of a close pair resolves the half in REV_SYNC
(R18), with what entry to CYCLE_SYNC does at the target unit, the oil budget unit, the engine age and the STATUS timer (R48,
R69, R79, R156), and in CYCLE_SYNC confirms it or is a HALF_CONFLICT (R19). At the meter, an edge with a cycle angle (R14,
R27, R28, R29): a stray is counted; an assigned edge writes its record and the estimate, and the measured phase goes on to
the channel. -/
def Obligations.EdgeMeasured : Prop :=
  ∀ (ch : Channel) (angle : Nat) (t : Tick) (s : State),
    let m := s.meters.get ch;
    let d := s.decoder;
    let stray := s.modMeter ch fun m => { m with strayCount := min 255 (m.strayCount + 1) };
    let rev := d.revAngle t;
    let pairHalf : Half := match s.straps.role with | .front => .zero | .rear => .one;
    let cycleAngle : Half → Nat := fun h => match h with | .zero => rev | .one => 3600 + rev;
    let close := ∃ q, d.prevCam.get ch = some q ∧ ((rev : Int) - q) % 3600 < 600;
    let marked := s.modDecoder fun d => { d with prevCam := d.prevCam.set ch (some rev) };
    let seen : State → State := fun u => u.modMeter ch fun m => { m with edgeSeen := true, missing := 0 };
    (m.assign ch s.straps.role angle = none → s.measureEdge ch angle = stray) ∧
      (∀ k,
        m.assign ch s.straps.role angle = some k →
          ((m.ring.get k).valid = true → s.measureEdge ch angle = stray) ∧
            ((m.ring.get k).valid = false →
              let raw := wrapAngle ((angle : Int) - nominalAngle k - headOffset s.straps.role);
              let corrected := raw - m.parkOffset.getD 0 - m.corr.get k;
              let phase := wrapAngle (match ch with | .a => -corrected | .b => corrected);
              s.measureEdge ch angle =
                (s.modMeter ch fun m =>
                  { m with
                    ring := m.ring.set k { cycle := s.decoder.cycleNumber, raw := raw, valid := true }
                    estimate := some phase }).phaseMeasured ch phase)) ∧
      (∀ i t0 p,
        d.tooth = some i → d.lastEdge = some t0 → d.pRef = some p →
          let elapsed := if 2147483648 < (t - t0).toNat then 0 else min (t - t0).toNat 1048575;
          rev = i * 120 + min (120 * elapsed / p) (if i < 27 then 119 else 359)) ∧
      (d.crank = .stopped ∨ d.crank = .gapSeek → s.camEdge ch t = s) ∧
      (d.crank = .revSync → ¬close → s.camEdge ch t = seen marked) ∧
      (d.crank = .revSync → close →
        s.camEdge ch t =
          (seen
              { marked with
                decoder := { marked.decoder with crank := .cycleSync, half := some pairHalf }
                target :=
                  { s.target with
                    pendingSlot := none, age := 255, mode := .park, active := ⟨0, 0⟩, moveOpen := ⟨false, false⟩ }
                oil := { s.oil with peers := s.oil.peers.map fun e => { e with age := 4 } }
                engine := { s.engine with age := 255 }
                timers := { s.timers with status := none } }).measureEdge
            ch (cycleAngle pairHalf)) ∧
      ∀ h,
        d.crank = .cycleSync → d.half = some h →
          (¬(close ∧ h ≠ pairHalf) → s.camEdge ch t = (seen marked).measureEdge ch (cycleAngle h)) ∧
            (close → h ≠ pairHalf →
              s.camEdge ch t =
                (seen (marked.modDecoder fun d => { d with crank := .revSync, half := none }).publishSyncLost).countLoss)

/-- Park learning (R32, R33, R34): a cycle that teaches with a mean in −100..100 acquires the offset and the corrections
or steps them by one unit; outside it latches PARK_OFFSET_RANGE; a cycle that does not teach changes nothing. At the cycle
reference the meter learns, then sets the park-watch flag if its channel is PARKED and clears it otherwise (R31), then makes
the noise test (R37), and marks every record invalid (R30). -/
def Obligations.ParkLearning : Prop :=
  ∀ (ch : Channel) (s : State),
    let m := s.meters.get ch;
    let mean :=
      (m.ring.e0.raw + m.ring.e1.raw + m.ring.e2.raw + m.ring.e3.raw + m.ring.e4.raw).tdiv 5;
    let teaches :=
      m.parkWatch = true ∧ s.channelState ch = .parked ∧ m.strayCount = 0 ∧
        ∀ k, (m.ring.get k).valid = true ∧ (m.ring.get k).cycle = s.decoder.cycleNumber - 1;
    let learned := s.parkLearning ch;
    let watched :=
      learned.modMeter ch fun m =>
        { m with parkWatch := decide (learned.channelState ch = .parked), strayCount := 0 };
    let tested :=
      if 4 ≤ (learned.meters.get ch).strayCount then watched.latchChannel ch .camNoise else watched;
    (¬teaches → s.parkLearning ch = s) ∧
      (teaches → ¬(-100 ≤ mean ∧ mean ≤ 100) → s.parkLearning ch = s.latchChannel ch .parkOffsetRange) ∧
      (teaches → -100 ≤ mean → mean ≤ 100 →
        ∃ m',
          s.parkLearning ch = s.modMeter ch (fun _ => m') ∧
            m' = { m with parkOffset := m'.parkOffset, corr := m'.corr } ∧
            (m.parkOffset = none →
              m'.parkOffset = some mean ∧ ∀ k, m'.corr.get k = limit (-30) 30 ((m.ring.get k).raw - mean)) ∧
            ∀ o,
              m.parkOffset = some o →
                m'.parkOffset = some (stepToward 1 mean o) ∧
                  ∀ k, m'.corr.get k = limit (-30) 30 (stepToward 1 ((m.ring.get k).raw - mean) (m.corr.get k))) ∧
      ∃ ring,
        s.meterCycleReference ch = (tested.modMeter ch fun m => { m with ring := ring }) ∧
          ∀ k, ring.get k = { (tested.meters.get ch).ring.get k with valid := false }

/-! ### The target unit -/

/-- TARGET (R44, R45): a good frame of another station addressed to the part fills the pending slot and sets the age to 0;
a broadcast one, and one addressed elsewhere, is a good frame for the link's runs and bit timing and nothing more. That the
frame takes no time, and leaves the bit time at its last read, is the model's reading (log entry 8). -/
def Obligations.TargetFrameTaken : Prop :=
  ∀ (h : Header) (mode intake exhaust : Word16) (s : State),
    Hears s → h.source ≠ s.straps.address →
      let read : State := { s with link := s.link.endFrame.countGood, timers := { s.timers with bitPhase := 30 } };
      (h.addressed = true → h.dest = s.straps.address →
          exec (.target h mode intake exhaust) s =
            .next
              (read.modTarget fun t =>
                { t with
                  pendingSlot := some ⟨if mode = 0x0001 then .track else .park, intake, exhaust⟩
                  age := 0 })) ∧
        ((h.addressed = false ∨ h.dest ≠ s.straps.address) →
          exec (.target h mode intake exhaust) s = .next read)

/-- The transfer at the cycle reference and the overlap guard (R46, R47 step 1), and the bound the guarded pair keeps. -/
def Obligations.TransferAndGuard : Prop :=
  ∀ (t : TargetUnit) (p : Params),
    (t.pendingSlot = none → t.transfer p = t) ∧
      ∀ r,
        t.pendingSlot = some r →
          let rI := limit 0 p.intakeMax (r.intake.toNat : Int);
          let rE := limit 0 p.exhaustMax (r.exhaust.toNat : Int);
          let l : Int := p.overlapLimit;
          let pair : Int × Int :=
            if r.mode = .park then (0, 0) else if l < rI then (l, 0) else if l < rI + rE then (rI, l - rI) else (rI, rE);
          t.transfer p =
              { t with
                pendingSlot := none
                mode := r.mode
                active := ⟨pair.1, pair.2⟩
                moveOpen :=
                  ⟨t.moveOpen.a || decide (pair.1 ≠ t.active.a), t.moveOpen.b || decide (pair.2 ≠ t.active.b)⟩ } ∧
            0 ≤ pair.1 ∧ pair.1 ≤ p.intakeMax ∧ 0 ≤ pair.2 ∧ pair.2 ≤ p.exhaustMax ∧ pair.1 + pair.2 ≤ l

/-- The target unit at a cycle reference (R47): the transfer, the age's increment, and a pair whose age now exceeds the
freshness limit with the mode TRACK becomes PARK, 0, 0. "Park commanded" is published where either step turns TRACK into PARK,
and takes running channels to RETURNING (R86, R87). TARGET_STALE is such a reference with a stale pair. That the command is the
target unit's own step is the model's reading (log entry 7). -/
def Obligations.StalePairParks : Prop :=
  ∀ s : State,
    let t := s.target.transfer s.store.params;
    let age := min 255 (t.age + 1);
    let stale := t.mode = .track ∧ s.store.params.freshness < age;
    let kept := s.modTarget fun _ => { t with age := age };
    let parked :=
      s.modTarget fun _ =>
        { t with
          age := age
          mode := .park
          active := ⟨0, 0⟩
          moveOpen := ⟨t.moveOpen.a || decide (t.active.a ≠ 0), t.moveOpen.b || decide (t.active.b ≠ 0)⟩ };
    (¬stale → ¬(s.target.mode = .track ∧ t.mode = .park) → s.targetCycleReference = kept) ∧
      (s.target.mode = .track → t.mode = .park → s.targetCycleReference = kept.returnRunning) ∧
      (stale → s.targetCycleReference = parked.returnRunning) ∧
      (s.supplyLow = false → s.decoder.crank = .cycleSync → stale →
        exec .targetStale s = .next parked.returnRunning)

/-- A phase-measured event at a channel, by its state. PARKED (R81): a release starts where every condition of R81 holds, with
the command of R75, and otherwise nothing changes. RELEASING (R82): the success run counts phases of 30 or more in a row, and
at 2 the channel enters TRACKING. TRACKING (R51, R54, R100): the ramp, then the target-at-park test, then the control update.
RETURNING (R89): the return run counts phases in −20..20 in a row, and at 3 the channel is PARKED. FAULT: nothing. -/
def Obligations.RampAndTargetAtPark : Prop :=
  ∀ (ch : Channel) (phase : Int) (s : State),
    let q := s.sequencers.get ch;
    (s.channelState ch = .parked →
        let may :=
          s.decoder.crank = .cycleSync ∧ s.store.windowOpen = false ∧ s.engine.parkRequest = false ∧ s.oil.low = false ∧
            s.engine.engine = .running ∧ s.engine.age ≤ 8 ∧ s.conditions.underVoltage = false ∧
            s.conditions.thermalCut = false ∧ (∀ k, s.faults.station.has k = false) ∧
            (∀ k, (s.faults.channel.get ch).has k = false) ∧ s.oil.ready = true ∧
            (s.meters.get ch).parkOffset ≠ none ∧ s.target.mode = .track ∧ 30 ≤ s.target.active.get ch ∧
            0 < q.attempts ∧ q.retryHold = 0;
        let release :=
          min s.store.params.releaseCurrent
            (if s.conditions.derate = true then s.store.params.currentLimit / 2 else s.store.params.currentLimit);
        (may →
            s.phaseMeasured ch phase =
              ((s.modSequencer ch fun q => { q with state := .releasing, releaseCount := 0, successRun := 0 }).modMeter
                  ch fun m => { m with parkWatch := false }).setCommand
                ch release) ∧
          (¬may → s.phaseMeasured ch phase = s)) ∧
      (s.channelState ch = .releasing →
        let run := if 30 ≤ phase then min 2 (q.successRun + 1) else 0;
        let counted := s.modSequencer ch fun q => { q with successRun := run };
        s.phaseMeasured ch phase = if run = 2 then counted.enterTracking ch phase else counted) ∧
      (s.channelState ch = .tracking →
        let a := s.target.active.get ch;
        let f := s.target.effective.get ch;
        let g := s.target.effective.get (otherChannel ch);
        let l : Int := s.store.params.overlapLimit;
        let f' : Int :=
          if f < a then min (f + s.oil.step) (min a (l - g)) else if a < f then max (f - s.oil.step) a else f;
        let u := s.modTarget fun t => { t with effective := t.effective.set ch f' };
        ((a < 30 ∧ f' < 30) → s.phaseMeasured ch phase = u.enterReturning ch) ∧
          (¬(a < 30 ∧ f' < 30) → s.phaseMeasured ch phase = u.controlUpdate ch phase)) ∧
      (s.channelState ch = .returning →
        let run := if -20 ≤ phase ∧ phase ≤ 20 then min 3 (q.returnRun + 1) else 0;
        let counted := s.modSequencer ch fun q => { q with returnRun := run };
        s.phaseMeasured ch phase = if run = 3 then counted.setChannelState ch .parked else counted) ∧
      (s.channelState ch = .fault → s.phaseMeasured ch phase = s)

/-! ### The oil budget unit -/

/-- The oil conditions at a cycle reference (R60): the ready run counts pressures at or above the release pressure, the low run
those below the low limit; a full low run sets oil-low and clears oil-ready, and a full ready run the other way. The budget is
computed at the same reference, and "oil low" takes running channels to RETURNING (R61): the unit forms its claims from the
states before that (R65, log entry 3). With OILP_SENSOR latched, or before the first OILP sample (log entry 4), the conditions
stay. OIL_READY, OIL_LOW (R60, R61) and PEER_ENTRY_EXPIRY (R68) are the evaluation, or the budget computation, that completes
its threshold: the unit's own action (the model's reading, log entry 7). -/
def Obligations.OilConditionsChange : Prop :=
  ∀ s : State,
    (∀ pressure,
        s.sense.pressure = some pressure → s.faults.station.oilpSensor = false →
          let readyRun :=
            if (s.store.params.releasePressure : Int) ≤ pressure then min 3 (s.oil.readyRun + 1) else 0;
          let lowRun := if pressure < (s.store.params.lowOilPressure : Int) then min 2 (s.oil.lowRun + 1) else 0;
          let isReady := readyRun = 3 ∨ (s.oil.ready = true ∧ lowRun ≠ 2);
          let isLow := readyRun ≠ 3 ∧ (s.oil.low = true ∨ lowRun = 2);
          let evaluated :=
            s.modOil fun o =>
              { o with readyRun := readyRun, lowRun := lowRun, ready := decide isReady, low := decide isLow };
          (s.oil.low = false → isLow → s.oilCycleReference = evaluated.budgetCompute.returnRunning) ∧
            (s.oil.low = true ∨ ¬isLow → s.oilCycleReference = evaluated.budgetCompute) ∧
            (s.supplyLow = false → s.decoder.crank = .cycleSync →
              (readyRun = 3 →
                  exec .oilReady s =
                    .next (s.modOil fun o => { o with readyRun := 3, lowRun := lowRun, ready := true, low := false })) ∧
                (s.oil.low = false → lowRun = 2 → readyRun ≠ 3 →
                  exec .oilLow s =
                    .next
                      ((s.modOil fun o =>
                        { o with readyRun := readyRun, lowRun := 2, ready := false, low := true }).returnRunning)))) ∧
      (s.sense.pressure = none ∨ s.faults.station.oilpSensor = true → s.oilCycleReference = s.budgetCompute) ∧
      ∀ addr,
        s.supplyLow = false → s.decoder.crank = .cycleSync →
          (∃ e ∈ s.oil.peers, e.address = addr ∧ 16 ≤ e.age) →
            exec (.peerEntryExpiry addr) s = .next s.budgetCompute

/-- The budget computation at a cycle reference, in its six steps (R68, R64, R65). -/
def Obligations.BudgetComputed : Prop :=
  ∀ (p : Int) (s : State),
    s.sense.pressure = some p →
      let peers := (s.oil.peers.map fun e => { e with age := e.age + 1 }).filter fun e => decide (e.age ≤ 16);
      let claim : Channel → Nat := fun ch =>
        match s.channelState ch, (s.controllers.get ch).lastError with
        | .tracking, some e => min 15 (e.natAbs / 40)
        | .releasing, _ => 8
        | _, _ => 0;
      let c := claim .a + claim .b;
      let t := c + ((peers.filter fun e => decide (e.age ≤ 3)).map PeerEntry.claim).sum;
      let b :=
        if s.faults.station.oilpSensor = true then 0
        else (limit 0 60 ((p - s.store.params.budgetZero).tdiv s.store.params.budgetStep)).toNat;
      s.budgetCompute =
        s.modOil fun o =>
          { o with
            peers := peers
            ownClaim := c
            demand := t
            budget := b
            step :=
              if b = 0 then 0
              else if t ≤ b then s.store.params.slewMax
              else max 1 (s.store.params.slewMax * b / t)
            limiting := decide (b < t) }

/-- STATUS (R66, R67): a good STATUS frame of another station, broadcast or addressed to the part, writes the entry of its
source with the claim of word 5 limited to 30 and the age 0, and leaves every other entry and every other item. That the frame
takes no time, and leaves the bit time at its last read, is the model's reading (log entry 8). -/
def Obligations.StatusFrameTaken : Prop :=
  ∀ (h : Header) (w0 w1 w2 w3 w4 w5 w6 : Word16) (s : State),
    Hears s → h.source ≠ s.straps.address → (h.addressed = false ∨ h.dest = s.straps.address) → PeerTableSound s →
      ∃ peers,
        exec (.status h w0 w1 w2 w3 w4 w5 w6) s =
            .next
              { s with
                link := s.link.endFrame.countGood, oil := { s.oil with peers := peers }
                timers := { s.timers with bitPhase := 30 } } ∧
          ∀ e,
            e ∈ peers ↔
              e = ⟨h.source, min 30 (w5.toNat / 2048), 0⟩ ∨ (e ∈ s.oil.peers ∧ e.address ≠ h.source)

/-! ### The channel sequencers -/

/-- What a change of channel state and a new command do at the other blocks: the commands of the states (R75), the effective
target of a channel that leaves TRACKING (R49), the park-watch flag (R31), the blanking (R126), and the exits of R77, R88
and R91. An event that makes a run condition false takes each channel in RELEASING or TRACKING to RETURNING, out of
CYCLE_SYNC on to PARKED: command and duty are 0, the output is off, the effective target of a channel that leaves TRACKING
is 0, attempts and hold stay, and so does the rest of its controller (R116); every other item stays (R77, R88, R91). That an
entry to RETURNING out of CYCLE_SYNC sets the return count and run to 0 before the channel goes on to PARKED is the model's
reading (log entry 14). -/
def Obligations.StateChangeEffects : Prop :=
  ∀ (ch : Channel) (s : State),
    (∀ new,
        let u := s.setChannelState ch new;
        u.channelState ch = new ∧
          u.channelState (otherChannel ch) = s.channelState (otherChannel ch) ∧
          (new.running = false → u.command ch = 0) ∧ (new.running = true → u.command ch = s.command ch) ∧
          u.command (otherChannel ch) = s.command (otherChannel ch) ∧
          (s.channelState ch = .tracking → new ≠ .tracking → u.target.effective.get ch = 0) ∧
          (s.channelState ch = .parked → new ≠ .parked → (u.meters.get ch).parkWatch = false) ∧
          u.target.active = s.target.active ∧ u.target.moveOpen = s.target.moveOpen) ∧
      (∀ i,
        (s.setCommand ch i).command ch = i ∧
          (s.setCommand ch i).timers.blanking.get ch =
            (if s.command ch < 200 ∧ 200 ≤ i then some 0 else s.timers.blanking.get ch)) ∧
      (let u := s.enterReturning ch;
        u.channelState ch = (if s.decoder.crank = .cycleSync then .returning else .parked) ∧
          u.command ch = 0 ∧ (u.sequencers.get ch).returnCount = 0 ∧ (u.sequencers.get ch).returnRun = 0 ∧
          (u.sequencers.get ch).attempts = (s.sequencers.get ch).attempts ∧
          (u.sequencers.get ch).retryHold = (s.sequencers.get ch).retryHold ∧
          u.channelState (otherChannel ch) = s.channelState (otherChannel ch)) ∧
      let u := s.returnRunning;
      ((s.channelState ch).running = true →
          u.sequencers.get ch =
              { s.sequencers.get ch with
                state := if s.decoder.crank = .cycleSync then .returning else .parked
                returnCount := 0
                returnRun := 0 } ∧
            u.controllers.get ch = { s.controllers.get ch with command := 0 } ∧
            u.drivers.get ch = { s.drivers.get ch with duty := 0, saturated := false, output := false } ∧
            u.target.effective.get ch = (if s.channelState ch = .tracking then 0 else s.target.effective.get ch)) ∧
        ((s.channelState ch).running = false →
          u.sequencers.get ch = s.sequencers.get ch ∧ u.controllers.get ch = s.controllers.get ch ∧
            u.drivers.get ch = s.drivers.get ch ∧ u.target.effective.get ch = s.target.effective.get ch) ∧
        u =
          { s with
            sequencers := u.sequencers
            controllers := u.controllers
            drivers := u.drivers
            target := { s.target with effective := u.target.effective } }

/-- ENGINE (R78): an accepted frame sets the engine state and makes its age 0, and a value other than RUNNING takes
running channels to RETURNING. ENGINE_STATE_STALE (R79): so does the cycle reference that brings the age to 9 with
RUNNING. The latter is the sequencer block's own step (the model's reading, log entry 7); that the frame takes no time, and
leaves the bit time at its last read, is its reading too (log entry 8). -/
def Obligations.EngineStateCommands : Prop :=
  ∀ (h : Header) (code : Word16) (s : State),
    let read : State := { s with link := s.link.endFrame.countGood, timers := { s.timers with bitPhase := 30 } };
    (Hears s → h.source ≠ s.straps.address → (h.addressed = false ∨ h.dest = s.straps.address) →
        (code = 0x0002 →
            exec (.engine h code) s = .next (read.modEngine fun e => { e with engine := .running, age := 0 })) ∧
          (code ≠ 0x0002 →
            exec (.engine h code) s =
              .next (read.modEngine fun e => { e with engine := .stopped, age := 0 }).returnRunning)) ∧
      (s.supplyLow = false → s.decoder.crank = .cycleSync → s.engine.engine = .running → s.engine.age = 8 →
        exec .engineStateStale s = .next (s.modEngine fun e => { e with age := 9 }).returnRunning)

/-- PARK_PIN_CHANGE and PARK_REQUEST_RECOGNISED (R80): a departure from the recognised level starts the 1 ms and a return
ends it; at its end the request follows the pin, and a request takes running channels to RETURNING. The time that passes is
the model's choice, and so is that a return taken when the 1 ms has already passed still ends it (log entry 2); that a
recognition with no time running changes nothing is its reading (log entry 5). -/
def Obligations.ParkPinCommands : Prop :=
  ∀ s : State,
    s.supplyLow = false →
      (∀ pin,
          pin = (if s.engine.parkPin = .high then PinLevel.low else PinLevel.high) →
            exec .parkPinChange s =
              .next
                { s with
                  engine := { s.engine with parkPin := pin }
                  timers :=
                    { s.timers with
                      park :=
                        if (pin = .high ↔ s.engine.parkRequest = true) then none else some 0 } }) ∧
        (s.timers.park = none → exec .parkRequestRecognised s = .next s) ∧
        ∀ n,
          s.timers.park = some n →
            let passed := (s.elapse (10000 - n)).modTimers fun t => { t with park := none };
            (s.engine.parkPin = .high →
                exec .parkRequestRecognised s =
                  .next (passed.modEngine fun e => { e with parkRequest := true }).returnRunning) ∧
              (s.engine.parkPin = .low →
                exec .parkRequestRecognised s = .next (passed.modEngine fun e => { e with parkRequest := false }))

/-- RELEASE_SUCCESS (R82, R83, R50, R115): the second phase of 30 or more in a row takes the channel to TRACKING, with its
attempts reloaded, its effective target set from the phase, and its controller started. That the command is the
sequencer's own step, with the phase its meter holds, is the model's reading (log entry 7). -/
def Obligations.ReleaseSucceeds : Prop :=
  ∀ (ch : Channel) (phase : Int) (s : State),
    s.channelState ch = .releasing → 30 ≤ phase → 1 ≤ (s.sequencers.get ch).successRun →
      let room : Int := (s.store.params.overlapLimit : Int) - s.target.effective.get (otherChannel ch);
      let entry := limit 0 (min (s.channelMax ch : Int) room) phase;
      let entered :=
        (((s.modSequencer ch fun q =>
              { q with state := .tracking, successRun := 2, attempts := 3, retryHold := 0 }).modTarget fun t =>
            { t with effective := t.effective.set ch entry }).modController ch fun c =>
          { c with integrator := 0, stationary := 0, trackErrors := 0, lastError := none }).setCommand ch
          (limit 0 (s.imaxEff : Int) (s.controllers.get ch).learnedNull).toNat;
      s.phaseMeasured ch phase = entered ∧
        (s.supplyLow = false → (s.meters.get ch).estimate = some phase → exec (.releaseSuccess ch) s = .next entered)

/-- The sequencer block at a cycle reference (R95, R79, R84, R85, R90): the engine age first, with the exits of an age of 9 with
RUNNING; then each channel by its state: the retry hold of a PARKED one, the release count of a RELEASING one, the return count
of a RETURNING one. RELEASE_TIMEOUT (R84): the eighth cycle reference in RELEASING consumes an attempt and sets the retry hold
to 2; the channel goes to PARKED, or LOCK_STUCK latches if no attempt is left. RETRY_HOLD_EXPIRY (R85): the hold of a PARKED
channel goes from 1 to 0. That the commands are the sequencer's own steps is the model's reading (log entry 7), and that channel
A comes before channel B is its choice (log entry 3). -/
def Obligations.ReleaseTimeoutAndHold : Prop :=
  ∀ (ch : Channel) (s : State),
    let q := s.sequencers.get ch;
    let timedOut :=
      s.modSequencer ch fun q => { q with releaseCount := 8, attempts := q.attempts - 1, retryHold := 2 };
    let aged := s.modEngine fun e => { e with age := min 255 (e.age + 1) };
    let stale := s.engine.age = 8 ∧ s.engine.engine = .running;
    s.sequencerCycleReference =
        ((if stale then aged.returnRunning else aged).sequencerTick .a).sequencerTick .b ∧
      (s.channelState ch = .parked →
        s.sequencerTick ch =
          (if q.retryHold = 0 then s else s.modSequencer ch fun q => { q with retryHold := q.retryHold - 1 })) ∧
      (s.channelState ch = .releasing →
        (q.releaseCount < 7 →
            s.sequencerTick ch = s.modSequencer ch fun q => { q with releaseCount := q.releaseCount + 1 }) ∧
          (7 ≤ q.releaseCount → 2 ≤ q.attempts → s.sequencerTick ch = timedOut.setChannelState ch .parked) ∧
          (7 ≤ q.releaseCount → q.attempts ≤ 1 → s.sequencerTick ch = timedOut.latchChannel ch .lockStuck)) ∧
      (s.channelState ch = .returning →
        (q.returnCount < 59 →
            s.sequencerTick ch = s.modSequencer ch fun q => { q with returnCount := q.returnCount + 1 }) ∧
          (59 ≤ q.returnCount →
            s.sequencerTick ch =
              (s.modSequencer ch fun q => { q with returnCount := 60 }).latchChannel ch .noReturn)) ∧
      (s.channelState ch = .tracking ∨ s.channelState ch = .fault → s.sequencerTick ch = s) ∧
      (s.supplyLow = false → s.decoder.crank = .cycleSync →
        (s.channelState ch = .releasing → 7 ≤ q.releaseCount → 2 ≤ q.attempts →
            exec (.releaseTimeout ch) s = .next (timedOut.setChannelState ch .parked)) ∧
          (s.channelState ch = .releasing → 7 ≤ q.releaseCount → q.attempts ≤ 1 →
            exec (.releaseTimeout ch) s = .next (timedOut.latchChannel ch .lockStuck)) ∧
          (s.channelState ch = .parked → q.retryHold = 1 →
            exec (.retryHoldExpiry ch) s = .next (s.modSequencer ch fun q => { q with retryHold := 0 })))

/-- RETURN_ARRIVAL (R89): the third phase in −20..20 in a row takes a RETURNING channel to PARKED. NO_RETURN (R90): the
sixtieth cycle reference in RETURNING latches NO_RETURN. That the commands are the sequencer's own steps is the model's
reading (log entry 7). -/
def Obligations.ReturnEnds : Prop :=
  ∀ (ch : Channel) (phase : Int) (s : State),
    s.supplyLow = false → s.channelState ch = .returning →
      ((s.meters.get ch).estimate = some phase → -20 ≤ phase → phase ≤ 20 → 2 ≤ (s.sequencers.get ch).returnRun →
          exec (.returnArrival ch) s =
            .next ((s.modSequencer ch fun q => { q with returnRun := 3 }).setChannelState ch .parked)) ∧
        (s.decoder.crank = .cycleSync → 59 ≤ (s.sequencers.get ch).returnCount →
          exec (.noReturn ch) s =
            .next ((s.modSequencer ch fun q => { q with returnCount := 60 }).latchChannel ch .noReturn))

/-! ### The position controllers -/

/-- NULL_TRANSFER (R107, R108): at the fortieth stationary update the null takes an eighth of the integrator within
200..800, the integrator gives the same amount up, and the command stays. TRACK_ERROR (R114): the fortieth update with an
error above 100 latches TRACK_ERROR. That the commands are the controller's own steps is the model's reading (log entry
7). -/
def Obligations.NullTransferAndTrackError : Prop :=
  ∀ (ch : Channel) (e : Int) (s : State),
    s.supplyLow = false → s.channelState ch = .tracking → (s.controllers.get ch).lastError = some e →
      (s.target.effective.get ch = s.target.active.get ch → e.natAbs ≤ s.store.params.holdWindow →
          39 ≤ (s.controllers.get ch).stationary →
            let x := (s.controllers.get ch).integrator;
            let n := (s.controllers.get ch).learnedNull;
            let n' := limit 200 800 (n + x.tdiv 8);
            exec (.nullTransfer ch) s =
              .next
                (s.modController ch fun c =>
                  { c with learnedNull := n', integrator := x - (n' - n), stationary := 0 })) ∧
        (100 < e.natAbs → 39 ≤ (s.controllers.get ch).trackErrors →
          exec (.trackError ch) s =
            .next ((s.modController ch fun c => { c with trackErrors := 40 }).latchChannel ch .trackError))

/-- A control update (R100): the error (R101), the integrator (R102, R103), the command in 0..Imax_eff (R104); then the reached
test (R112), the stationary count with its null transfer (R107, R108), and the track-error count (R114), whose fortieth update
latches TRACK_ERROR in the state so updated. The duty follows the command (R120), a duty of 0 turns the output off (R121), and
a command that rises to 200 or more starts the blanking (R126). Nothing else changes but what that latch does. -/
def Obligations.ControlUpdateResult : Prop :=
  ∀ (ch : Channel) (phase : Int) (s : State),
    let c := s.controllers.get ch;
    let e := limit (-1000) 1000 (s.target.effective.get ch - phase);
    let x' := limit (-300) 300 (c.integrator + ((s.store.params.ki : Int) * e).tdiv 64);
    let prop := ((s.store.params.kp : Int) * e).tdiv 16;
    let i' := c.learnedNull + prop + x';
    let imax : Int := s.imaxEff;
    let discard := (imax < i' ∧ 0 < e) ∨ (i' < 0 ∧ e < 0);
    let x := if discard then c.integrator else x';
    let settled :=
      s.target.effective.get ch = s.target.active.get ch ∧ e.natAbs ≤ s.store.params.holdWindow;
    let null' := if settled ∧ 39 ≤ c.stationary then limit 200 800 (c.learnedNull + x.tdiv 8) else c.learnedNull;
    let latches := 100 < e.natAbs ∧ 39 ≤ c.trackErrors;
    let command := (limit 0 imax (if discard then c.learnedNull + prop + c.integrator else i')).toNat;
    let d := s.drivers.get ch;
    let duty := dutyOf command d.rEst (s.driverCut ch) s.sense.supply;
    let updated : State :=
      { s with
        controllers :=
          s.controllers.set ch
            { integrator := x - (null' - c.learnedNull)
              learnedNull := null'
              lastError := some e
              command := command
              stationary := if settled ∧ c.stationary < 39 then c.stationary + 1 else 0
              trackErrors := if 100 < e.natAbs then min 40 (c.trackErrors + 1) else 0
              reached := c.reached || (decide settled && s.target.moveOpen.get ch) }
        target :=
          { s.target with
            moveOpen := s.target.moveOpen.set ch (s.target.moveOpen.get ch && !decide settled) }
        drivers :=
          s.drivers.set ch
            { d with duty := duty.1, saturated := duty.2, output := d.output && decide (duty.1 ≠ 0) }
        timers :=
          { s.timers with
            blanking :=
              if c.command < 200 ∧ 200 ≤ command then s.timers.blanking.set ch (some 0) else s.timers.blanking } };
    let t := s.controlUpdate ch phase;
    command ≤ s.imaxEff ∧ (¬latches → t = updated) ∧
      (latches →
        t = updated.latchChannel ch .trackError ∧ (t.faults.channel.get ch).trackError = true ∧
          ((s.faults.channel.get ch).trackError = false → t.channelState ch = .fault ∧ t.command ch = 0))

/-! ### The solenoid drivers -/

/-- PWM_PERIOD_START and ON_TIME_END (R121): at a channel's period start, which comes as the period timer reaches 0 for
channel A and 1250 for channel B, the duty in force gives the on-time; at its end the output turns off, but an on-time of
the whole period does not end. The comparator's time of continuous on-time starts with the period, unless the output was on
across the boundary (R124). A start whose instant has passed is owed and comes at once; the time that passes is the model's
choice (log entry 2), and that ON_TIME_END changes nothing at an output that is off is its reading (log entry 5). -/
def Obligations.PwmPeriod : Prop :=
  ∀ (ch : Channel) (s : State),
    s.supplyLow = false → s.timers.pwm < 2500 →
      let d := s.drivers.get ch;
      let into : Nat → Nat := fun pwm => match ch with | .a => pwm | .b => (pwm + 1250) % 2500;
      let owed := s.timers.periodsOwed.get ch;
      let u := s.elapse (if owed = 0 then 2500 - into s.timers.pwm else 0);
      (owed = 0 → u.timers.pwm = (match ch with | .a => 0 | .b => 1250)) ∧
        exec (.pwmPeriodStart ch) s =
          .next
            ({ u with
              timers :=
                { u.timers with
                  periodsOwed := u.timers.periodsOwed.set ch (u.timers.periodsOwed.get ch - 1)
                  sinceOn :=
                    u.timers.sinceOn.set ch
                      (if d.output = true ∧ 2500 ≤ d.onTime then u.timers.sinceOn.get ch
                      else min 80 (into u.timers.pwm)) } }.modDriver
              ch fun d => { d with output := decide (0 < d.duty), onTime := d.duty * 5 / 2 }) ∧
        (d.output = false ∨ 2500 ≤ d.onTime → exec (.onTimeEnd ch) s = .next s) ∧
        (d.output = true → d.onTime < 2500 →
          exec (.onTimeEnd ch) s =
            .next
              ((s.elapse (if owed = 0 then d.onTime - into s.timers.pwm else 0)).modDriver ch fun d =>
                { d with output := false }))

/-- OVERCURRENT (R124): a current above parameter 14 that stands until 8 µs (80 ticks) of continuous on-time are complete turns
the output off, sets the trip, makes the duty 0 and latches OVERCURRENT; an on-time that ends by then, an output that is off,
and a current not above the threshold trip nothing. That the command carries the current is the model's choice (log entry 10),
the time that passes too (log entry 2), and that the command changes nothing where the run cannot be completed is its reading
(log entry 5). -/
def Obligations.OvercurrentTrip : Prop :=
  ∀ (ch : Channel) (current : Nat) (s : State),
    s.supplyLow = false →
      let d := s.drivers.get ch;
      let left := 80 - s.timers.sinceOn.get ch;
      let last := (match ch with | .a => s.timers.pwm | .b => (s.timers.pwm + 1250) % 2500) + left;
      let runs :=
        d.output = true ∧ s.timers.periodsOwed.get ch = 0 ∧ (last < d.onTime ∨ (2500 ≤ d.onTime ∧ last ≤ 2500));
      (runs → s.store.params.overcurrent < current →
          exec (.overcurrent ch current) s =
            .next
              (((s.elapse left).modDriver ch fun d =>
                    { d with output := false, trip := true, duty := 0, saturated := false }).latchChannel ch
                .overcurrent)) ∧
        (¬runs ∨ current ≤ s.store.params.overcurrent → exec (.overcurrent ch current) s = .next s)

/-- CURRENT_SAMPLE, OPEN_COIL and OPEN_COIL_BLANKING_EXPIRY (R126, R134, R136, R138): at the completion of a slot of the
channel's input the sample is stored and tested; the fourth low one in a row latches OPEN_COIL; the blanking ends 1 ms after its
start. The time that passes is the model's choice (log entry 2), that a sample out of the poll list's turn changes nothing is its
reading (log entry 5), and so is that OPEN_COIL tests the latest sample (log entry 7). -/
def Obligations.OpenCoilCommands : Prop :=
  ∀ (ch : Channel) (code : Code12) (sample : Nat) (s : State),
    s.supplyLow = false →
      let due := s.slotDue (match ch with | .a => .ia | .b => .ib) = true;
      let low : State → Nat → Prop := fun s i =>
        200 ≤ s.command ch ∧ s.driverCut ch = false ∧ s.timers.blanking.get ch = none ∧ i < s.command ch / 8;
      let tested : State → Nat → State → Prop := fun s i t =>
        (low s i → 3 ≤ (s.drivers.get ch).openRun →
            t = (s.modDriver ch fun d => { d with openRun := 0 }).latchChannel ch .openCoil) ∧
          (low s i → (s.drivers.get ch).openRun < 3 →
            t = s.modDriver ch fun d => { d with openRun := d.openRun + 1 }) ∧
          (¬low s i → t = s.modDriver ch fun d => { d with openRun := 0 });
      (due →
          ∃ t,
            exec (.currentSample ch code) s = .next t ∧
              tested
                (s.completeSlot.modSense fun n =>
                  { n with currents := n.currents.set ch (some (code.toNat * 3000 / 4096)) })
                (code.toNat * 3000 / 4096) t) ∧
        (¬due → exec (.currentSample ch code) s = .next s) ∧
        (s.sense.currents.get ch = some sample → low s sample → 3 ≤ (s.drivers.get ch).openRun →
          exec (.openCoil ch) s =
            .next ((s.modDriver ch fun d => { d with openRun := 0 }).latchChannel ch .openCoil)) ∧
        ∀ n,
          s.timers.blanking.get ch = some n →
            exec (.openCoilBlankingExpiry ch) s =
              .next ((s.elapse (10000 - n)).modTimers fun t => { t with blanking := t.blanking.set ch none })

/-- The resistance trim at the cycle reference (R122, R123): where its conditions hold, R_est steps four units toward the
measured resistance within its bounds and the duty follows; where one fails, nothing changes. -/
def Obligations.ResistanceTrim : Prop :=
  ∀ (ch : Channel) (s : State),
    let d := s.drivers.get ch;
    let able : Int → Nat → Prop := fun v i =>
      s.sense.supply = some v ∧ s.sense.currents.get ch = some i ∧ s.channelState ch = .tracking ∧ 100 ≤ d.duty ∧
        d.duty ≤ 900 ∧ 100 ≤ i;
    (∀ v i,
        able v i →
          let measured : Int := ((v.toNat * d.duty / (i * 10) : Nat) : Int);
          let moved : Int :=
            if (d.rEst : Int) < measured then min (d.rEst + 4) measured else max (d.rEst - 4) measured;
          s.resistanceTrim ch =
            (s.modDriver ch fun d =>
                  { d with
                    rEst :=
                      limitNat (s.store.params.coilResistance * 7 / 10) (s.store.params.coilResistance * 16 / 10)
                        moved.toNat }).computeDuty ch) ∧
      ((∀ v i, ¬able v i) → s.resistanceTrim ch = s)

/-! ### The sense sequencer -/

/-- The poll list and its slots of 500 ticks (R134), and OILP_SAMPLE and OILP_SENSOR (R136, R137, R141, R142): at the completion
of an OILP slot the filter moves a quarter of the way, and the range check counts an out-of-band code; the eighth in a row
latches OILP_SENSOR and restarts the run. A completion whose instant has passed is owed and comes at once; the time that passes
is the model's choice (log entry 2), that a sample out of the poll list's turn changes nothing is its reading (log entry 5), and
so is that OILP_SENSOR is one range check (log entry 7). -/
def Obligations.OilPressureSamples : Prop :=
  ∀ (code : Code12) (s : State),
    (∀ input,
        s.slotDue input =
          decide
            ([SenseInput.ia, .ib, .oilp, .ia, .ib, .vsup, .ia, .ib, .tdie, .oilp][(s.timers.slotIndex +
                9 * s.timers.slot.owed) % 10]? = some input)) ∧
      (s.completeSlot =
        (s.elapse (if s.timers.slot.owed = 0 then 500 - s.timers.slot.ticks else 0)).modTimers fun t =>
          { t with slot := ⟨t.slot.ticks, t.slot.owed - 1⟩ }) ∧
      (s.supplyLow = false →
        let kPa := limit 0 1000 ((((code.toNat : Int) - 410) * 1000).tdiv 3276);
        let p : Int := match s.sense.pressure with | none => kPa | some f => f + (kPa - f).tdiv 4;
        let sampled : Nat → State := fun run =>
          s.completeSlot.modSense fun n => { n with pressure := some p, rangeRun := run };
        let band := 205 ≤ code.toNat ∧ code.toNat ≤ 3890;
        let due := s.slotDue .oilp = true;
        (due → band → exec (.oilpSample code) s = .next (sampled 0)) ∧
          (due → ¬band → s.sense.rangeRun < 7 →
            exec (.oilpSample code) s = .next (sampled (s.sense.rangeRun + 1))) ∧
          (due → ¬band → 7 ≤ s.sense.rangeRun →
            exec (.oilpSample code) s = .next ((sampled 0).latchStation .oilpSensor)) ∧
          (¬due → exec (.oilpSample code) s = .next s) ∧
          (¬band → 7 ≤ s.sense.rangeRun →
            exec (.oilpSensor code) s =
              .next ((s.modSense fun n => { n with rangeRun := 0 }).latchStation .oilpSensor)))

/-- VSUP_SAMPLE and TDIE_SAMPLE (R77, R127, R128, R129, R136, R137, R139, R140), each at the completion of a slot of its
input: the filtered values, the conditions and the duties they leave, and that a cut takes every running channel out. A duty
that becomes 0 turns its output off, as at both channels of a cut, and no other output changes (R121, R127, R129). Where the
derate changes Imax_eff, a RELEASING command becomes the smaller of the release current and the new limit, and a TRACKING
command above a limit that falls becomes that limit; the controller's other items stay (R106, R128). The time that passes is
the model's choice (log entry 2), and that a sample out of the poll list's turn changes nothing is its reading (log entry
5). -/
def Obligations.SupplyAndTemperatureSamples : Prop :=
  ∀ (code : Code12) (s : State),
    s.supplyLow = false →
      let w := s.completeSlot;
      let mV := ((code.toNat : Int) * 20000).tdiv 4096;
      let v : Int := match s.sense.supply with | none => mV | some f => f + (mV - f).tdiv 4;
      let celsius := ((code.toNat : Int) * 250).tdiv 4096 - 50;
      let θ : Int := match s.sense.temperature with | none => celsius | some f => f + (celsius - f).tdiv 4;
      let under := if s.conditions.underVoltage = true then decide (v < 8000) else decide (v < 7000);
      let derate := if s.conditions.derate = true then decide (140 ≤ θ) else decide (150 ≤ θ);
      let cut := if s.conditions.thermalCut = true then decide (160 ≤ θ) else decide (170 ≤ θ);
      let imax := if derate = true then s.store.params.currentLimit / 2 else s.store.params.currentLimit;
      let command : Channel → Nat := fun ch =>
        if derate = s.conditions.derate then s.command ch
        else
          match s.channelState ch with
          | .releasing => min s.store.params.releaseCurrent imax
          | .tracking => if derate = true then min (s.command ch) imax else s.command ch
          | _ => s.command ch;
      let computed : State → Channel → Prop := fun t ch =>
        ((t.drivers.get ch).duty, (t.drivers.get ch).saturated) =
            dutyOf (t.command ch) (s.drivers.get ch).rEst (t.driverCut ch) t.sense.supply ∧
          ((t.drivers.get ch).output = true → (s.drivers.get ch).output = true ∧ (t.drivers.get ch).duty ≠ 0) ∧
          (s.driverCut ch = false → (s.drivers.get ch).output = true → (t.drivers.get ch).duty ≠ 0 →
            (t.drivers.get ch).output = true) ∧
          t.drivers.get ch =
            { s.drivers.get ch with
              duty := (t.drivers.get ch).duty
              saturated := (t.drivers.get ch).saturated
              output := (t.drivers.get ch).output };
      (s.slotDue .vsup = false → exec (.vsupSample code) s = .next s) ∧
        (s.slotDue .tdie = false → exec (.tdieSample code) s = .next s) ∧
        (s.slotDue .vsup = true →
          ∃ t,
            exec (.vsupSample code) s = .next t ∧
              t.sense = { s.sense with supply := some v } ∧
              t.conditions = { s.conditions with underVoltage := under } ∧ (∀ ch, computed t ch) ∧
              (under = true → s.conditions.underVoltage = false →
                (∀ ch, (t.channelState ch).running = false) ∧ t.sequencers = s.returnRunning.sequencers ∧
                  t.target = s.returnRunning.target ∧ t.controllers = s.returnRunning.controllers ∧
                  t.meters = s.meters) ∧
              (¬(under = true ∧ s.conditions.underVoltage = false) →
                t.sequencers = s.sequencers ∧ t.controllers = s.controllers ∧ t.target = s.target ∧
                  t.meters = s.meters) ∧
              t.timers = w.timers ∧ t.link = w.link ∧ t.filters = s.filters ∧ t.decoder = s.decoder ∧
              t.oil = s.oil ∧ t.engine = s.engine ∧ t.store = s.store ∧ t.straps = s.straps ∧ t.faults = s.faults ∧
              t.pending = s.pending ∧ t.supplyLow = false) ∧
        (s.slotDue .tdie = true →
          ∃ t,
            exec (.tdieSample code) s = .next t ∧
              t.sense = { s.sense with temperature := some θ } ∧
              t.conditions = { s.conditions with derate := derate, thermalCut := cut } ∧
              (cut = true → s.conditions.thermalCut = false →
                (∀ ch, (t.channelState ch).running = false) ∧ t.sequencers = s.returnRunning.sequencers ∧
                  t.target = s.returnRunning.target ∧ t.meters = s.meters ∧
                  ∀ ch,
                    t.controllers.get ch =
                      { s.controllers.get ch with
                        command := if (s.channelState ch).running = true then 0 else command ch }) ∧
              (¬(cut = true ∧ s.conditions.thermalCut = false) →
                t.sequencers = s.sequencers ∧ t.target = s.target ∧ t.meters = s.meters ∧
                  ∀ ch, t.controllers.get ch = { s.controllers.get ch with command := command ch }) ∧
              (derate ≠ s.conditions.derate ∨ cut ≠ s.conditions.thermalCut → ∀ ch, computed t ch) ∧
              (derate = s.conditions.derate → cut = s.conditions.thermalCut → t.drivers = s.drivers) ∧
              (∀ ch,
                t.timers.blanking.get ch =
                  (if s.command ch < 200 ∧ 200 ≤ command ch then some 0 else w.timers.blanking.get ch)) ∧
              t.timers = { w.timers with blanking := t.timers.blanking } ∧ t.link = w.link ∧ t.filters = s.filters ∧
              t.decoder = s.decoder ∧ t.oil = s.oil ∧ t.engine = s.engine ∧ t.store = s.store ∧
              t.straps = s.straps ∧ t.faults = s.faults ∧ t.pending = s.pending ∧ t.supplyLow = false)

/-! ### Faults and CLEAR -/

/-- The latch of a kind (R92, R176, R157, R178): a kind already present changes nothing; a new channel kind enters its
set, takes its channel to FAULT with command and duty 0 and its output off, offers the FAULT frame of the whole set (R155) and
starts the pulse of pulse mode, and leaves the other channel and every other item. A new station kind enters the station set,
offers its frame, starts the pulse, has the oil budget unit respond to OILP_SENSOR (R62), and takes running channels out
(R77). -/
def Obligations.FaultLatch : Prop :=
  ∀ s : State,
    let offered : Slot → Frame → Slot := fun sl f => ⟨some f, false, if sl.content = none then 0 else sl.attempts⟩;
    let timers : Timers :=
      { s.timers with pulse := if s.straps.faultLine = .pulse then some 0 else s.timers.pulse };
    (∀ ch k,
        let u := s.latchChannel ch k;
        let slot : SlotName := match ch with | .a => .faultA | .b => .faultB;
        ((s.faults.channel.get ch).has k = true → u = s) ∧
          ((s.faults.channel.get ch).has k = false →
            (u.faults.channel.get ch).has k = true ∧
              (∀ j, j ≠ k → (u.faults.channel.get ch).has j = (s.faults.channel.get ch).has j) ∧
              u.faults.channel.get (otherChannel ch) = s.faults.channel.get (otherChannel ch) ∧
              u.faults.station = s.faults.station ∧
              u =
                { s with
                  faults := u.faults
                  sequencers := s.sequencers.set ch { s.sequencers.get ch with state := .fault }
                  controllers := s.controllers.set ch { s.controllers.get ch with command := 0 }
                  drivers :=
                    s.drivers.set ch { s.drivers.get ch with duty := 0, saturated := false, output := false }
                  meters :=
                    if s.channelState ch = .parked then
                      s.meters.set ch { s.meters.get ch with parkWatch := false }
                    else s.meters
                  target :=
                    { s.target with
                      effective :=
                        if s.channelState ch = .tracking then s.target.effective.set ch 0 else s.target.effective }
                  link :=
                    if s.link.silence = true then s.link
                    else s.link.setSlot slot (offered (s.link.slot slot) (u.channelFaultFrame ch))
                  timers := timers })) ∧
      ∀ k : StationFault,
        let u := s.latchStation k;
        (s.faults.station.has k = true → u = s) ∧
          (s.faults.station.has k = false →
            ∃ station : StationFaults,
              station.has k = true ∧ (∀ j, j ≠ k → station.has j = s.faults.station.has j) ∧
                (∀ ch, (u.channelState ch).running = false) ∧
                u =
                  { s with
                    faults := { s.faults with station := station }
                    link :=
                      if s.link.silence = true then s.link
                      else s.link.setSlot .faultStation (offered s.link.faultStation u.stationFaultFrame)
                    timers := timers
                    oil :=
                      if k = StationFault.oilpSensor then
                        { s.oil with
                          ready := false, readyRun := 0, lowRun := 0, budget := 0, step := 0
                          limiting := decide (0 < s.oil.demand) }
                      else s.oil }.returnRunning)

/-- CLEAR (R179, R94, R125, R22, R35, R111, R123): an accepted frame empties the sets of its scope, reloads the attempts
and takes FAULT to PARKED, clears the overcurrent trip with OVERCURRENT, sets the decoder's counters to 0 for a scope that
covers the station, and relearns on PARKED and FAULT channels: the park offset, the corrections, the null and R_est, with the
duty computed anew. Every other item stays. That the frame takes no time, and leaves the bit time at its last read, is the
model's reading (log entry 8). -/
def Obligations.ClearFrameTaken : Prop :=
  ∀ (h : Header) (w : Word16) (s : State),
    Hears s → h.source ≠ s.straps.address → (h.addressed = false ∨ h.dest = s.straps.address) →
      let scope := w.toNat % 4;
      let covered : Channel → Prop := fun ch => scope = 3 ∨ scope = (match ch with | .a => 1 | .b => 2);
      let relearns : Channel → Prop := fun ch =>
        w.getLsbD 15 = true ∧ (s.channelState ch = .parked ∨ s.channelState ch = .fault);
      ∃ t,
        exec (.clear h w) s = .next t ∧
          (∀ ch,
            covered ch →
              let fault := s.channelState ch = .fault;
              let m := s.meters.get ch;
              let c := s.controllers.get ch;
              let d := s.drivers.get ch;
              let d' := t.drivers.get ch;
              let had := (s.faults.channel.get ch).overcurrent;
              (t.faults.channel.get ch).isEmpty = true ∧
                t.sequencers.get ch =
                  { s.sequencers.get ch with
                    state := if fault then .parked else s.channelState ch
                    attempts := 3
                    retryHold := 0 } ∧
                t.meters.get ch =
                  (if relearns ch then { m with parkOffset := none, corr := ⟨0, 0, 0, 0, 0⟩ } else m) ∧
                t.controllers.get ch =
                  { c with
                    command := if fault then 0 else c.command
                    learnedNull := if relearns ch then (s.store.params.nullBase : Int) else c.learnedNull } ∧
                d' =
                  { d with
                    trip := d.trip && !had
                    rEst := if relearns ch then s.store.params.coilResistance else d.rEst
                    duty := d'.duty
                    saturated := d'.saturated
                    output := d'.output } ∧
                (fault ∨ had = true ∨ relearns ch →
                  (d'.duty, d'.saturated) =
                      dutyOf (t.command ch) d'.rEst (t.driverCut ch) s.sense.supply ∧
                    (d'.output = true → d.output = true ∧ d'.duty ≠ 0)) ∧
                (¬(fault ∨ had = true ∨ relearns ch) → d' = d)) ∧
          (∀ ch,
            ¬covered ch →
              t.faults.channel.get ch = s.faults.channel.get ch ∧ t.sequencers.get ch = s.sequencers.get ch ∧
                t.meters.get ch = s.meters.get ch ∧ t.controllers.get ch = s.controllers.get ch ∧
                t.drivers.get ch = s.drivers.get ch) ∧
          (scope = 0 ∨ scope = 3 →
            t.faults.station.isEmpty = true ∧ t.decoder = { s.decoder with lossCounter := 0, lossFreeRun := 0 }) ∧
          (scope = 1 ∨ scope = 2 → t.faults.station = s.faults.station ∧ t.decoder = s.decoder) ∧
          t =
            { s with
              link := s.link.endFrame.countGood
              timers := { s.timers with bitPhase := 30 }
              faults := t.faults
              sequencers := t.sequencers
              meters := t.meters
              controllers := t.controllers
              drivers := t.drivers
              decoder := t.decoder }

/-! ### The configuration store and the resets -/

/-- The ranges of the twenty parameters (R168). CONFIG and CLOSE (R169, R170, R171, R172): an addressed CONFIG frame taken
while the window is open, with an id below 20, stores the value limited to its range and recomputes the check value, the sum
of the twenty modulo 65536; a store of id 7 reseeds both nulls (R110), and one of id 9 both resistance estimates, with their
duties computed anew (R123); an addressed CLOSE frame closes the window; any other is a good frame and nothing more. That
the frame takes no time, and leaves the bit time at its last read, is the model's reading (log entry 8). -/
def Obligations.ConfigAndClose : Prop :=
  ((List.range 20).map paramRange =
        [some (0, 1000), some (0, 600), some (0, 600), some (0, 255), some (0, 255), some (1, 100), some (1, 50),
          some (200, 800), some (200, 1500), some (200, 2000), some (50, 600), some (20, 500), some (0, 500), some (1, 50),
          some (500, 3000), some (0, 3), some (0, 7), some (0, 7), some (1, 16), some (200, 1500)] ∧
      ∀ k, 20 ≤ k → paramRange k = none) ∧
    ∀ (h : Header) (id value : Word16) (s : State),
      Hears s → h.source ≠ s.straps.address →
        let read : State := { s with link := s.link.endFrame.countGood, timers := { s.timers with bitPhase := 30 } };
        let own := h.addressed = true ∧ h.dest = s.straps.address;
        (∀ lo hi,
            own → s.store.windowOpen = true → paramRange id.toNat = some (lo, hi) →
              ∃ t,
                exec (.config h id value) s = .next t ∧
                  t.store.params.get id.toNat = limitNat lo hi value.toNat ∧
                  (∀ k, k ≠ id.toNat → t.store.params.get k = s.store.params.get k) ∧
                  t.store.checkValue.toNat = ((List.range 20).map t.store.params.get).sum % 65536 ∧ t.store.windowOpen = true ∧
                  (∀ ch,
                    let d := s.drivers.get ch;
                    let v := limitNat lo hi value.toNat;
                    let duty := dutyOf (s.command ch) v (s.driverCut ch) s.sense.supply;
                    t.controllers.get ch =
                        (if id.toNat = 7 then { s.controllers.get ch with learnedNull := (v : Nat) }
                        else s.controllers.get ch) ∧
                      t.drivers.get ch =
                        (if id.toNat = 9 then
                          { d with
                            rEst := v, duty := duty.1, saturated := duty.2
                            output := d.output && decide (duty.1 ≠ 0) }
                        else d)) ∧
                  t = { read with store := t.store, controllers := t.controllers, drivers := t.drivers }) ∧
          (¬own ∨ s.store.windowOpen = false ∨ 20 ≤ id.toNat → exec (.config h id value) s = .next read) ∧
          (own → exec (.close h) s = .next (read.modStore fun c => { c with windowOpen := false })) ∧
          (¬own → exec (.close h) s = .next read)

/-- RESTART (R173, R174, R167): an addressed frame taken in STOPPED with each channel PARKED or in FAULT has the effect of
power-on reset and samples the strap pins; in any other case it is a good frame and nothing more. That an ignored RESTART
counts as a good frame, that the frame takes no time and leaves the bit time at its last read, and what the reset keeps, are
the model's (log entries 8 and 10). -/
def Obligations.RestartTaken : Prop :=
  ∀ (h : Header) (pins : StrapPins) (s : State),
    Hears s → h.source ≠ s.straps.address →
      let taken :=
        h.addressed = true ∧ h.dest = s.straps.address ∧ s.decoder.crank = .stopped ∧
          ∀ ch, s.channelState ch = .parked ∨ s.channelState ch = .fault;
      (taken →
          exec (.restart h pins) s =
            .next
              { State.reset with
                pending := s.pending
                straps :=
                  { address :=
                      BitVec.ofBool (decide (pins.addr2 = .high)) ++ BitVec.ofBool (decide (pins.addr1 = .high)) ++
                        BitVec.ofBool (decide (pins.addr0 = .high))
                    role := if pins.role = .low then .front else .rear
                    faultLine := if pins.fltmode = .low then .level else .pulse }
                engine := { State.reset.engine with parkPin := s.engine.parkPin }
                timers := { State.reset.timers with park := if s.engine.parkPin = .low then some 0 else none } }) ∧
        (¬taken →
          exec (.restart h pins) s =
            .next { s with link := s.link.endFrame.countGood, timers := { s.timers with bitPhase := 30 } })

/-! ### The engine link -/

/-- FRAME_PASSED_OVER, FAULT_FRAME_RECEIVED and ADDRESS_CLASH (R150, R152, R153): a good frame that no block takes counts
as good; one with the part's own source address counts as good, sets the transmit silence, empties the four slots and
latches ADDRESS_CLASH. Where no frame of another station can be read, because the part sends, or because it reads no frame and
the line is not idle (R145), no frame command acts: the model's reading (log entry 5), and so is that a frame takes no time and
leaves the bit time at its last read (log entry 8). -/
def Obligations.FramesWithoutDelivery : Prop :=
  ∀ (f : Frame) (h : Header) (w0 w1 w2 w3 w4 w5 w6 : Word16) (pins : StrapPins) (bits : List Bool) (s : State),
    let good : Link → Link := fun l =>
      { l with
        reading := .no, gapCount := 8, dominantRun := 0, discardRun := 0, goodRun := min 16 (l.goodRun + 1)
        linkErrors := l.linkErrors && decide (min 16 (l.goodRun + 1) ≠ 16) };
    let read : (Link → Link) → State := fun g => { s with link := g s.link, timers := { s.timers with bitPhase := 30 } };
    let unused :=
      (f.header.addressed = true ∧ f.header.dest ≠ s.straps.address) ∨ f.cls = 0 ∨ 8 ≤ f.cls.toNat ∨
        ¬((f.cls.toNat, f.payload.length) ∈ [(1, 3), (2, 1), (3, 7), (4, 1), (5, 2), (6, 0), (7, 0)]);
    (Hears s → f.header.source ≠ s.straps.address → unused →
        exec (.framePassedOver f) s = .next (read good)) ∧
      (Hears s → h.source ≠ s.straps.address →
        exec (.faultFrameReceived h w0 w1 w2) s = .next (read good)) ∧
      (Hears s → f.header.source = s.straps.address →
        exec (.addressClash f) s =
          .next
            ((read fun l =>
                  { good l with
                    silence := true
                    status := ⟨none, false, 0⟩, faultA := ⟨none, false, 0⟩, faultB := ⟨none, false, 0⟩
                    faultStation := ⟨none, false, 0⟩ }).latchStation .addressClash)) ∧
      (¬Hears s →
        ∀ c ∈
          [Instr.target h w0 w1 w2, .engine h w0, .status h w0 w1 w2 w3 w4 w5 w6, .clear h w0, .config h w0 w1, .close h,
            .restart h pins, .faultFrameReceived h w0 w1 w2, .framePassedOver f, .addressClash f, .frameDiscarded bits],
          exec c s = .next s)

/-- FRAME_DISCARDED, LINK_ERRORS and LINK_ERRORS_CLEARED (R147, R148, R151, R152): a framing error or an illegal length ends
the frame at its bit with a gap count of 0, a bad check after its end field with 8; a discard of another station's frame
counts, the third in a row sets link-errors, and the sixteenth good frame in a row clears it. Which bits give which verdict
is O46's. That the command carries the bits read is the model's choice (log entry 10). That bits which end no frame in error,
or begin none of another station's (R145), change nothing (log entry 5), that a frame command takes the whole frame, in no time, and leaves the bit time at the read of its
last bit (log entry 8), and that the last two are one count each (log entry 7), are its readings. -/
def Obligations.DiscardedFrames : Prop :=
  ∀ (bits : List Bool) (s : State),
    let counted : Link → Link := fun l =>
      { l with
        goodRun := 0
        discardRun := min 3 (l.discardRun + 1)
        linkErrors := l.linkErrors || decide (2 ≤ l.discardRun) };
    let read : Link → State := fun l => { s with link := l, timers := { s.timers with bitPhase := 30 } };
    (∀ n,
        judge bits = .aborted n → Hears s →
          let ended : Link :=
            { s.link with reading := .no, gapCount := 0, dominantRun := min 40 (dominantTail (bits.take n)) };
          (s.link.reading ≠ .ownRemains → bits.head? = some false →
              exec (.frameDiscarded bits) s = .next (read (counted ended))) ∧
            (s.link.reading = .ownRemains → exec (.frameDiscarded bits) s = .next (read ended))) ∧
      (judge bits = .badCheck → Hears s →
        let ended : Link := { s.link with reading := .no, gapCount := 8, dominantRun := 0 };
        (s.link.reading ≠ .ownRemains → bits.head? = some false →
            exec (.frameDiscarded bits) s = .next (read (counted ended))) ∧
          (s.link.reading = .ownRemains → exec (.frameDiscarded bits) s = .next (read ended))) ∧
      (judge bits = .incomplete ∨ (∃ f, judge bits = .good f) ∨
          (s.link.reading ≠ .ownRemains ∧ bits.head? = some true) →
        exec (.frameDiscarded bits) s = .next s) ∧
      (s.supplyLow = false → 2 ≤ s.link.discardRun →
        exec .linkErrors s =
          .next (s.modLink fun l => { l with goodRun := 0, discardRun := 3, linkErrors := true })) ∧
      (s.supplyLow = false → s.link.linkErrors = true → 15 ≤ s.link.goodRun →
        exec .linkErrorsCleared s =
          .next (s.modLink fun l => { l with discardRun := 0, goodRun := 16, linkErrors := false }))

/-- SEND_START (R158): at the next bit boundary, on a line that is idle there, with the transmitter free and neither the
bus-stuck flag nor the silence set, the first fault slot of the order that holds unsent content is chosen before STATUS, copied
and marked. That the time up to the boundary passes is the model's choice (log entry 2); that the gap count is 0 and the dominant
run 1 with the part's own start bit (log entry 6), and that the command changes nothing, no time included, where a condition
fails at the boundary or nothing waits (log entry 5), are its readings. -/
def Obligations.SendStart : Prop :=
  ∀ s : State,
    s.supplyLow = false →
      let u := s.elapse ((40 - s.timers.bitPhase) % 40);
      let ready :=
        u.link.gapCount = 11 ∧ u.link.reading = .no ∧ u.link.transmitter = .free ∧ u.link.busStuck = false ∧
          u.link.silence = false;
      let waits : SlotName → Frame → Prop := fun k f =>
        (s.link.slot k).content = some f ∧ (s.link.slot k).onLine = false;
      (s.timers.bitPhase < 40 → u.timers.bitPhase = 0) ∧
        (∀ k f before after,
          ready → s.link.faultOrder ++ [SlotName.status] = before ++ k :: after → waits k f →
            (∀ j ∈ before, ∀ g, ¬waits j g) →
              exec .sendStart s =
                .next
                  (u.modLink fun l =>
                    { (l.setSlot k { l.slot k with onLine := true }) with
                      transmitter := .sending k f, reading := .frame, gapCount := 0, dominantRun := 1 })) ∧
        (¬ready ∨ (∀ k ∈ s.link.faultOrder ++ [SlotName.status], ∀ f, ¬waits k f) → exec .sendStart s = .next s)

/-- LOST_ARBITRATION, BIT_ERROR and SLOT_DROP (R159, R160, R161): how a transmission ends without completing, with what it
leaves of the slot, and that a bit which is neither changes nothing. After a bit error the part reads on what remains of its own
frame, unless the bit read ends it as a framing error or an illegal length (R147, R151; which bits do is O46's). Bit 0 is the start bit, and bits 1 to 7 are the tag.
The number of the bit is the commands' own operand (log entry 10). That the bits sent take no time, and leave the bit time at
the read of the last, is the model's reading (log entry 8). -/
def Obligations.TransmissionEndsEarly : Prop :=
  ∀ (bit : Nat) (k : SlotName) (f : Frame) (s : State),
    s.supplyLow = false → s.link.transmitter = .sending k f →
      let sent := f.lineBits.getD bit true;
      let bits := f.lineBits.take bit ++ [!sent];
      let run := dominantTail bits;
      let onward : Link → Link := fun l =>
        match judge bits with
        | .aborted _ => { l with reading := .no, gapCount := 0 }
        | _ => { l with reading := .ownRemains };
      let lost := 1 ≤ bit ∧ bit ≤ 7 ∧ f.lineBits.getD bit false = true;
      let wrong := bit < f.lineBits.length ∧ (sent = false ∨ 8 ≤ bit);
      let sl := s.link.slot k;
      let read : (Link → Link) → State := fun g => { s with link := g s.link, timers := { s.timers with bitPhase := 30 } };
      let failed : State :=
        read fun l =>
          { onward (l.setSlot k { sl with onLine := false, attempts := sl.attempts + 1 }) with
            transmitter := .free, dominantRun := run };
      let dropped : State :=
        read fun l =>
          { onward (l.setSlot k ⟨none, false, 0⟩) with
            transmitter := .free, dominantRun := run, linkErrors := true, goodRun := 0
            faultOrder := if k ∈ l.faultOrder then l.faultOrder.filter (· ≠ k) ++ [k] else l.faultOrder };
      (lost →
          exec (.lostArbitration bit) s =
            .next
              (read fun l =>
                { (l.setSlot k { sl with onLine := false }) with
                  transmitter := .free, reading := .frame, dominantRun := run })) ∧
        (¬lost → exec (.lostArbitration bit) s = .next s) ∧
        (wrong → sl.attempts < 7 → exec (.bitError bit) s = .next failed) ∧
        (wrong → 7 ≤ sl.attempts → exec (.bitError bit) s = .next dropped ∧ exec (.slotDrop bit) s = .next dropped) ∧
        (¬wrong → exec (.bitError bit) s = .next s)

/-- TRANSMISSION_COMPLETE (R162, R113, R155): the slot empties if its mark is still set and keeps its newer content
otherwise, a fault slot moves to the end of the order, the frame counts as good with a gap count of 8, and each reached
flag that a completed STATUS carried clears, unless a newer content still waiting in the slot carries it set too. That the
frame takes no time, and leaves the bit time at the read of its last bit, is the model's reading (log entry 8). -/
def Obligations.TransmissionCompletes : Prop :=
  ∀ (k : SlotName) (f : Frame) (s : State),
    s.supplyLow = false → s.link.transmitter = .sending k f →
      let carries : Frame → Channel → Bool := fun f ch =>
        match f.payload with
        | w :: _ => w.getLsbD (match ch with | .a => 6 | .b => 5)
        | [] => false;
      let newer : Channel → Bool := fun ch =>
        match s.link.status.content with
        | some g => !s.link.status.onLine && carries g ch
        | none => false;
      ∃ t,
        exec .transmissionComplete s = .next t ∧
          t.link =
            { (s.link.setSlot k (if (s.link.slot k).onLine = true then ⟨none, false, 0⟩ else s.link.slot k)) with
              transmitter := .free
              faultOrder :=
                if k ∈ s.link.faultOrder then s.link.faultOrder.filter (· ≠ k) ++ [k] else s.link.faultOrder
              reading := .no, gapCount := 8, dominantRun := 0, discardRun := 0, goodRun := min 16 (s.link.goodRun + 1)
              linkErrors := s.link.linkErrors && decide (min 16 (s.link.goodRun + 1) ≠ 16) } ∧
          (∀ ch,
            t.controllers.get ch =
              { s.controllers.get ch with
                reached :=
                  (s.controllers.get ch).reached && !(decide (k = .status) && carries f ch && !newer ch) }) ∧
          t = { s with link := t.link, controllers := t.controllers, timers := { s.timers with bitPhase := 30 } }

/-- START_BIT, BUS_STUCK and BUS_STUCK_CLEARED (R145, R147, R152, R154): a dominant bit outside a frame opens one on an idle
line only, and the bit timing resynchronises at the change to it; forty dominant reads set the bus-stuck flag, and a frame
that is read meanwhile, or that the first of them opens, is discarded; the recessive reads up to a gap count of 11 clear the
flag. The time that passes is the model's choice (log entries 2 and 9), and so is that a dominant run of 0 stands for a
recessive line at reset too (log entry 1); that the gap count is 0 after a start bit (log entry 6), and that START_BIT
changes nothing while a frame is read, BUS_STUCK with a dominant run of 40, and BUS_STUCK_CLEARED with a gap count of 11
(log entry 5), are its readings. -/
def Obligations.LineReads : Prop :=
  ∀ s : State,
    s.supplyLow = false → s.link.transmitter = .free → s.timers.bitPhase < 40 →
      let toRead := (69 - s.timers.bitPhase) % 40 + 1;
      let first := if s.link.dominantRun = 0 then 30 else toRead;
      let opens := s.link.reading = .no ∧ s.link.gapCount = 11;
      let discards := s.link.reading = .frame ∨ opens;
      ((s.timers.bitPhase + toRead) % 40 = 30 ∧ 0 < toRead ∧ toRead ≤ 40) ∧
        (s.link.reading = .no →
          exec .startBit s =
            .next
              { s with
                timers := { s.timers.advance first with bitPhase := 30 }
                link :=
                  { s.link with
                    gapCount := 0
                    reading := if opens then .frame else .no
                    dominantRun := min 40 (s.link.dominantRun + 1)
                    busStuck := s.link.busStuck || decide (39 ≤ s.link.dominantRun) } }) ∧
        (s.link.reading ≠ .no → exec .startBit s = .next s) ∧
        (s.link.dominantRun < 40 →
          exec .busStuck s =
            .next
              { s with
                timers := { s.timers.advance (first + 40 * (39 - s.link.dominantRun)) with bitPhase := 30 }
                link :=
                  { s.link with
                    reading := .no, gapCount := 0, dominantRun := 40, busStuck := true
                    goodRun := if discards then 0 else s.link.goodRun
                    discardRun := if discards then min 3 (s.link.discardRun + 1) else s.link.discardRun
                    linkErrors :=
                      s.link.linkErrors || (decide discards && decide (2 ≤ s.link.discardRun)) } }) ∧
        (40 ≤ s.link.dominantRun → exec .busStuck s = .next s) ∧
        (s.link.reading = .no → s.link.gapCount < 11 →
          exec .busStuckCleared s =
            .next
              { s with
                timers := s.timers.advance (toRead + 40 * (10 - s.link.gapCount))
                link := { s.link with gapCount := 11, dominantRun := 0, busStuck := false } }) ∧
        (s.link.reading ≠ .no ∨ 11 ≤ s.link.gapCount → exec .busStuckCleared s = .next s)

/-- STATUS_TIMER_EXPIRY (R156, R155) and FAULT_PULSE_EXPIRY (R178): the rest of the 50 ms passes, the timer has started again
and the STATUS content of the state so reached is queued, unless the silence refuses it; the pulse timer stops at its end.
An expiry whose instant has passed is owed and comes at once: the time that passes is the model's choice (log entry 2), and
that the expiry of a stopped timer changes nothing is its reading (log entry 5). -/
def Obligations.TimerExpiries : Prop :=
  ∀ (n : Nat) (c : Cyclic) (s : State),
    s.supplyLow = false →
      (s.timers.status = some c →
          let passed := s.elapse (if c.owed = 0 then 500000 - c.ticks else 0);
          let u :=
            passed.modTimers fun t => { t with status := t.status.map fun c => ⟨c.ticks, c.owed - 1⟩ };
          (c.owed = 0 → c.ticks < 500000 → u.timers.status = some ⟨0, 0⟩) ∧
            (s.link.silence = true → exec .statusTimerExpiry s = .next u) ∧
            (s.link.silence = false →
              exec .statusTimerExpiry s =
                .next
                  (u.modLink fun l =>
                    { l with
                      status :=
                        ⟨some u.statusFrame, false,
                          if l.status.content = none then 0 else l.status.attempts⟩ }))) ∧
        (s.timers.status = none → exec .statusTimerExpiry s = .next s) ∧
        (s.timers.pulse = some n →
          exec .faultPulseExpiry s =
            .next ((s.elapse (10000 - n)).modTimers fun t => { t with pulse := none })) ∧
        (s.timers.pulse = none → exec .faultPulseExpiry s = .next s)

/-- The receiver reads back, as a good frame, exactly the frame whose bits the sender puts on the line (R146, R147, R148),
for every frame with at most eight words whose broadcast destination is 000; the line carries 44 + 18 × L bits. They are the
fields in their order, each most significant bit first, with a recessive spacer after each eighth counted bit and eight recessive
end bits (R146), and the check code is the remainder by 0x1021 over tag, destination, length and payload (R148). For any counted
bits: a spacer read dominant ends the frame at its bit, a length field of
9 to 15 at its fourth bit, an end bit read dominant at that bit (R147); where every framing check passes, the check code over
tag, destination, length and payload decides between a good frame and a bad check (R148). -/
def Obligations.FrameRoundTrip : Prop :=
  (∀ f : Frame, f.wellFormed = true → judge f.lineBits = .good f ∧ f.lineBits.length = 44 + 18 * f.payload.length) ∧
    (∀ f : Frame,
      let bits : Nat → Nat → List Bool := fun n x => (List.range n).map fun i => x.testBit (n - 1 - i);
      let covered :=
        bits 4 f.cls.toNat ++ bits 3 f.header.source.toNat ++ [f.header.addressed] ++
              bits 3 (if f.header.addressed = true then f.header.dest.toNat else 0) ++ bits 4 f.payload.length ++
          (f.payload.map fun w => bits 16 w.toNat).flatten;
      f.lineBits = withSpacers ([false] ++ covered ++ bits 16 (checkOf covered).toNat) ++ List.replicate 8 true) ∧
    (∀ group rest : List Bool,
      (group.length = 8 → withSpacers (group ++ rest) = group ++ true :: withSpacers rest) ∧
        (group.length < 8 → withSpacers group = group)) ∧
    (checkOf [] = 0 ∧
      ∀ (bits : List Bool) (b : Bool),
        let r := checkOf bits;
        checkOf (bits ++ [b]) = if xor b (r.getLsbD 15) = true then (r <<< 1) ^^^ 0x1021 else r <<< 1) ∧
    ∀ (counted group rest : List Bool) (j : Nat),
      counted.length = 8 * j →
        let lengthField : List Bool → Nat := fun bs => ofBits ((bs.drop 12).take 4);
        let words := lengthField counted;
        let complete := j = 2 * words + 4 ∧ words ≤ 8;
        (group.length = 8 → (j = 0 ∨ (lengthField (counted ++ group) ≤ 8 ∧ j < 2 * lengthField (counted ++ group) + 4)) →
            judge (withSpacers counted ++ group ++ false :: rest) = .aborted (9 * j + 9)) ∧
          (j = 1 → group.length = 8 → 8 < lengthField (counted ++ group) →
            judge (withSpacers counted ++ group ++ rest) = .aborted 17) ∧
          (∀ e,
            complete → e < 8 →
              judge (withSpacers counted ++ List.replicate e true ++ false :: rest) =
                .aborted (18 * words + 36 + e + 1)) ∧
          (complete →
            judge (withSpacers counted ++ List.replicate 8 true) =
              if bitsOf 16 (checkOf ((counted.drop 1).take (15 + 16 * words))).toNat = counted.drop (16 + 16 * words) then
                .good (frameOf (counted.take 16) ((counted.drop 16).take (16 * words)))
              else .badCheck)

/-! ### What the part shows -/

/-- The words of a STATUS frame and of a FAULT frame field by field (R164, R166), with the codes of the crank state (R23) and of
the channel states (R96), FAULT_N in its two modes (R177, R178),
and the two status lines by source code (R181). -/
def Obligations.FramesBuiltAndLines : Prop :=
  ∀ s : State,
    let crankCode : Nat :=
      match s.decoder.crank with
      | .stopped => 0
      | .gapSeek => 1
      | .revSync => 2
      | .cycleSync => 3;
    let stateCode : Channel → Nat := fun ch =>
      match s.channelState ch with
      | .parked => 0
      | .releasing => 1
      | .tracking => 2
      | .returning => 3
      | .fault => 4;
    (∃ w0 w1 w2 w3 w4 w5 w6,
        s.statusFrame = ⟨3, ⟨s.straps.address, false, 0⟩, [w0, w1, w2, w3, w4, w5, w6]⟩ ∧
          w0.toNat / 2 ^ 14 = crankCode ∧ w0.getLsbD 13 = !s.store.windowOpen ∧
          w0.toNat / 2 ^ 10 % 8 = stateCode .a ∧ w0.toNat / 2 ^ 7 % 8 = stateCode .b ∧
          w0.getLsbD 6 = s.controllers.a.reached ∧ w0.getLsbD 5 = s.controllers.b.reached ∧
          w0.getLsbD 4 = !s.faults.station.isEmpty ∧ w0.getLsbD 3 = s.link.linkErrors ∧
          w0.getLsbD 2 = s.oil.limiting ∧ w0.getLsbD 1 = s.conditions.derate ∧
          w0.getLsbD 0 = s.conditions.underVoltage ∧
          w1 = (match s.meters.a.estimate with | none => 0x8000 | some p => BitVec.ofInt 16 p) ∧
          w2 = BitVec.ofInt 16 s.target.effective.a ∧
          w3 = (match s.meters.b.estimate with | none => 0x8000 | some p => BitVec.ofInt 16 p) ∧
          w4 = BitVec.ofInt 16 s.target.effective.b ∧
          (s.oil.ownClaim ≤ 30 → w5.toNat / 2 ^ 11 = s.oil.ownClaim) ∧
          (s.oil.budget ≤ 60 → w5.toNat / 2 ^ 5 % 64 = s.oil.budget) ∧
          w5.getLsbD 4 = decide (s.straps.role = .rear) ∧ w5.getLsbD 3 = s.engine.parkRequest ∧
          w5.getLsbD 2 = s.drivers.a.saturated ∧ w5.getLsbD 1 = s.drivers.b.saturated ∧ w5.getLsbD 0 = false ∧
          w6 = s.store.checkValue) ∧
      (∀ ch,
        ∃ w0 w1 w2,
          s.channelFaultFrame ch = ⟨0, ⟨s.straps.address, false, 0⟩, [w0, w1, w2]⟩ ∧
            w0.toNat / 2 ^ 8 = (match ch with | .a => 64 | .b => 128) ∧
            (let f := s.faults.channel.get ch;
              w0.getLsbD 0 = f.camLost ∧ w0.getLsbD 1 = f.camNoise ∧ w0.getLsbD 2 = f.parkOffsetRange ∧
                w0.getLsbD 3 = f.lockStuck ∧ w0.getLsbD 4 = f.noReturn ∧ w0.getLsbD 5 = f.trackError ∧
                w0.getLsbD 6 = f.overcurrent ∧ w0.getLsbD 7 = f.openCoil) ∧
            w1 = (match (s.meters.get ch).estimate with | none => 0x8000 | some p => BitVec.ofInt 16 p) ∧
            w2.toNat = stateCode ch) ∧
      (∃ w0 w2,
        s.stationFaultFrame = ⟨0, ⟨s.straps.address, false, 0⟩, [w0, 0x8000, w2]⟩ ∧ w0.toNat / 2 ^ 3 = 0 ∧
          w0.getLsbD 0 = s.faults.station.oilpSensor ∧ w0.getLsbD 1 = s.faults.station.addressClash ∧
          w0.getLsbD 2 = s.faults.station.crankUnstable ∧ w2.toNat = crankCode) ∧
      (s.straps.faultLine = .level →
        (s.faultNLow = true ↔
          (∃ ch k, (s.faults.channel.get ch).has k = true) ∨ ∃ k, s.faults.station.has k = true)) ∧
      (s.straps.faultLine = .pulse → (s.faultNLow = true ↔ ∃ n, s.timers.pulse = some n)) ∧
      ∀ (code : Nat) (low : Bool),
        (code = s.store.params.st0Source ∧ low = s.st0Low ∨ code = s.store.params.st1Source ∧ low = s.st1Low) →
          (code = 0 → low = false) ∧ (code = 1 → (low = true ↔ s.decoder.crank = .cycleSync)) ∧
            (code = 2 → (low = true ↔ ∀ ch, s.channelState ch = .tracking)) ∧
            (code = 3 → (low = true ↔ ∃ ch, s.channelState ch = .returning)) ∧
            (code = 4 → (low = true ↔ s.link.linkErrors = true ∨ s.link.busStuck = true)) ∧
            (code = 5 → low = s.oil.limiting) ∧ (code = 6 → low = s.engine.parkRequest) ∧
            (code = 7 → low = s.conditions.derate)

/-! ### Rules that every step keeps -/

/-- Right after reset every rule of Safety.lean holds. -/
def Obligations.ResetIsSafe : Prop :=
  FaultStateAgrees State.reset ∧ RunConditionsHold State.reset ∧ CommandBounded State.reset ∧ WindowSound State.reset ∧
    TargetsBounded State.reset ∧ ControlBounded State.reset ∧ DutyCurrent State.reset ∧ ResistanceBounded State.reset ∧
    PeerTableSound State.reset ∧ OilSound State.reset ∧ DecoderSound State.reset ∧ MeterSound State.reset ∧
    TimersSound State.reset ∧ SequencerSound State.reset ∧ LinkSound State.reset ∧ ParamsSound State.reset ∧
    SenseSound State.reset

/-- Every step keeps R92's rule. -/
def Obligations.FaultStateKept : Prop :=
  ∀ s t : State, FaultStateAgrees s → step s = .next t → FaultStateAgrees t

/-- Every step keeps R76's rule. -/
def Obligations.RunConditionsKept : Prop :=
  ∀ s t : State, RunConditionsHold s → step s = .next t → RunConditionsHold t

/-- Every step keeps R99's rule. -/
def Obligations.CommandBoundKept : Prop :=
  ∀ s t : State, RunConditionsHold s → CommandBounded s → step s = .next t → CommandBounded t

/-- Every step keeps R52's rule, with the facts about the window that it rests on. -/
def Obligations.OverlapBoundKept : Prop :=
  ∀ s t : State,
    RunConditionsHold s → WindowSound s → TargetsBounded s → step s = .next t → WindowSound t ∧ TargetsBounded t

/-- Every step keeps R105's and R109's rules. -/
def Obligations.IntegratorAndNullKept : Prop :=
  ∀ s t : State, ParamsSound s → ControlBounded s → step s = .next t → ControlBounded t

/-- Every step leaves each duty as R120 computes it from its inputs, and each R_est within R123's bounds. The computation:
command 0 or a cut gives 0; otherwise the quotient I × R × 10 / V, truncated, limited to 1000 with the flag set where it exceeds
1000. That no supply sample yet gives 0 is the model's reading (log entry 4). -/
def Obligations.DriverRulesKept : Prop :=
  (∀ (command rEst : Nat) (cut : Bool) (v : Nat),
      let quotient := command * rEst * 10 / v;
      dutyOf command rEst cut (some v) =
          (if command = 0 ∨ cut = true then (0, false) else (min 1000 quotient, decide (1000 < quotient))) ∧
        dutyOf command rEst cut none = (0, false)) ∧
    ∀ s t : State, DutyCurrent s → ResistanceBounded s → step s = .next t → DutyCurrent t ∧ ResistanceBounded t

/-- Every step keeps the peer table and the oil budget unit's items in their ranges, in a state whose parameters lie in their
ranges. -/
def Obligations.OilBudgetKept : Prop :=
  ∀ s t : State,
    ParamsSound s → WindowSound s → PeerTableSound s → OilSound s → step s = .next t → PeerTableSound t ∧ OilSound t

/-- Every step keeps the presence and the ranges of the decoder's items (R5), but for the lower bound 1 of P_ref. That bound too
is kept by every step at which a crank edge comes no less than three ticks after the last accepted one, as it does behind an
input filter of 20 ticks or more (R2); two edges closer than that, which the model's commands can name, could leave a P_ref of 0
(log entry 4). -/
def Obligations.DecoderItemsKept : Prop :=
  ∀ s t : State,
    DecoderSound s → step s = .next t →
      DecoderSound t ∧
        ((∀ p, s.decoder.pRef = some p → 1 ≤ p) →
          (∀ c t0, s.filters.crank.candidate = some c → s.decoder.lastEdge = some t0 → 3 ≤ (c.stamp - t0).toNat) →
            ∀ p, t.decoder.pRef = some p → 1 ≤ p)

/-- Every step keeps the phase meters' items. -/
def Obligations.MeterItemsKept : Prop := ∀ s t : State, MeterSound s → step s = .next t → MeterSound t

/-- Every step keeps the timers, the sequencers' items and the sense sequencer's items in their ranges, the STATUS timer
running exactly outside CYCLE_SYNC, and the PARK pin's recognition time running exactly while the pin differs. -/
def Obligations.TimersAndCountsKept : Prop :=
  ∀ s t : State,
    TimersSound s → SequencerSound s → SenseSound s → step s = .next t →
      TimersSound t ∧ SequencerSound t ∧ SenseSound t

/-- Every step keeps the send slots, the transmitter and the silence in agreement. -/
def Obligations.SendSlotsKept : Prop := ∀ s t : State, LinkSound s → step s = .next t → LinkSound t

/-- Every step keeps every parameter in its range (R168) and the check value at the sum of the twenty modulo 65536 (R171). -/
def Obligations.ParametersKept : Prop :=
  (∀ p : Params, p.check.toNat = ((List.range 20).map p.get).sum % 65536) ∧
    ∀ s t : State, ParamsSound s → step s = .next t → ParamsSound t
end

