-- ==== Sys2Proof/Laws/State.lean ====
section
/-! SUPPORT. One lemma for each field under each update of the state, and the laws of the pairs, the tooth records and the
filters. -/

namespace Sys2Proof.Machine

/-! ### Pairs, tooth records and filters -/

@[simp] theorem Pair.get_both {α : Type} (v : α) (ch : Channel) : (Pair.both v).get ch = v := by cases ch <;> rfl
@[simp] theorem Pair.get_set_same {α : Type} (p : Pair α) (ch : Channel) (v : α) : (p.set ch v).get ch = v := by
  cases ch <;> rfl
theorem Pair.get_set_ne {α : Type} (p : Pair α) {ch c : Channel} (h : c ≠ ch) (v : α) : (p.set ch v).get c = p.get c := by
  cases ch <;> cases c <;> first | rfl | exact absurd rfl h
theorem Pair.get_set {α : Type} (p : Pair α) (ch c : Channel) (v : α) :
    (p.set ch v).get c = if c = ch then v else p.get c := by
  cases ch <;> cases c <;> rfl
@[simp] theorem Pair.set_get_same {α : Type} (p : Pair α) (ch : Channel) : p.set ch (p.get ch) = p := by
  cases ch <;> rfl
@[simp] theorem Pair.set_set_same {α : Type} (p : Pair α) (ch : Channel) (v w : α) : (p.set ch v).set ch w = p.set ch w := by
  cases ch <;> rfl
@[simp] theorem Pair.get_set_other {α : Type} (p : Pair α) (ch : Channel) (v : α) :
    (p.set ch v).get (otherChannel ch) = p.get (otherChannel ch) := by
  cases ch <;> rfl
theorem Pair.ext_get {α : Type} {p q : Pair α} (h : ∀ ch, p.get ch = q.get ch) : p = q := by
  have ha := h .a
  have hb := h .b
  cases p; cases q; simp_all [Pair.get]
@[simp] theorem otherChannel_other (ch : Channel) : otherChannel (otherChannel ch) = ch := by cases ch <;> rfl
theorem otherChannel_ne (ch : Channel) : otherChannel ch ≠ ch := by cases ch <;> decide
@[simp] theorem PerTooth.get_set_same {α : Type} (r : PerTooth α) (k : Tooth) (v : α) : (r.set k v).get k = v := by
  cases k <;> rfl
theorem PerTooth.get_set_ne {α : Type} (r : PerTooth α) {k j : Tooth} (h : j ≠ k) (v : α) :
    (r.set k v).get j = r.get j := by
  cases k <;> cases j <;> first | rfl | exact absurd rfl h
@[simp] theorem PerTooth.get_map {α β : Type} (f : α → β) (r : PerTooth α) (k : Tooth) : (r.map f).get k = f (r.get k) := by
  cases k <;> rfl
@[simp] theorem PerTooth.get_map2 {α β γ : Type} (f : α → β → γ) (r : PerTooth α) (q : PerTooth β) (k : Tooth) :
    (r.map2 f q).get k = f (r.get k) (q.get k) := by
  cases k <;> rfl
@[simp] theorem Filters.get_set_same (fs : Filters) (pin : AnglePin) (f : InputFilter) : (fs.set pin f).get pin = f := by
  cases pin <;> rfl
theorem Filters.get_set_ne (fs : Filters) {pin p : AnglePin} (h : p ≠ pin) (f : InputFilter) :
    (fs.set pin f).get p = fs.get p := by
  cases pin <;> cases p <;> first | rfl | exact absurd rfl h

/-! ### One lemma for each field under each update -/


@[simp] theorem State.modTimers_pending (s : State) (f : Timers → Timers) : (s.modTimers f).pending = s.pending := rfl
@[simp] theorem State.modTimers_supplyLow (s : State) (f : Timers → Timers) : (s.modTimers f).supplyLow = s.supplyLow := rfl
@[simp] theorem State.modTimers_timers (s : State) (f : Timers → Timers) : (s.modTimers f).timers = f s.timers := rfl
@[simp] theorem State.modTimers_filters (s : State) (f : Timers → Timers) : (s.modTimers f).filters = s.filters := rfl
@[simp] theorem State.modTimers_decoder (s : State) (f : Timers → Timers) : (s.modTimers f).decoder = s.decoder := rfl
@[simp] theorem State.modTimers_meters (s : State) (f : Timers → Timers) : (s.modTimers f).meters = s.meters := rfl
@[simp] theorem State.modTimers_target (s : State) (f : Timers → Timers) : (s.modTimers f).target = s.target := rfl
@[simp] theorem State.modTimers_oil (s : State) (f : Timers → Timers) : (s.modTimers f).oil = s.oil := rfl
@[simp] theorem State.modTimers_engine (s : State) (f : Timers → Timers) : (s.modTimers f).engine = s.engine := rfl
@[simp] theorem State.modTimers_sequencers (s : State) (f : Timers → Timers) : (s.modTimers f).sequencers = s.sequencers := rfl
@[simp] theorem State.modTimers_controllers (s : State) (f : Timers → Timers) : (s.modTimers f).controllers = s.controllers := rfl
@[simp] theorem State.modTimers_drivers (s : State) (f : Timers → Timers) : (s.modTimers f).drivers = s.drivers := rfl
@[simp] theorem State.modTimers_conditions (s : State) (f : Timers → Timers) : (s.modTimers f).conditions = s.conditions := rfl
@[simp] theorem State.modTimers_sense (s : State) (f : Timers → Timers) : (s.modTimers f).sense = s.sense := rfl
@[simp] theorem State.modTimers_link (s : State) (f : Timers → Timers) : (s.modTimers f).link = s.link := rfl
@[simp] theorem State.modTimers_store (s : State) (f : Timers → Timers) : (s.modTimers f).store = s.store := rfl
@[simp] theorem State.modTimers_straps (s : State) (f : Timers → Timers) : (s.modTimers f).straps = s.straps := rfl
@[simp] theorem State.modTimers_faults (s : State) (f : Timers → Timers) : (s.modTimers f).faults = s.faults := rfl

@[simp] theorem State.modFilters_pending (s : State) (f : Filters → Filters) : (s.modFilters f).pending = s.pending := rfl
@[simp] theorem State.modFilters_supplyLow (s : State) (f : Filters → Filters) : (s.modFilters f).supplyLow = s.supplyLow := rfl
@[simp] theorem State.modFilters_timers (s : State) (f : Filters → Filters) : (s.modFilters f).timers = s.timers := rfl
@[simp] theorem State.modFilters_filters (s : State) (f : Filters → Filters) : (s.modFilters f).filters = f s.filters := rfl
@[simp] theorem State.modFilters_decoder (s : State) (f : Filters → Filters) : (s.modFilters f).decoder = s.decoder := rfl
@[simp] theorem State.modFilters_meters (s : State) (f : Filters → Filters) : (s.modFilters f).meters = s.meters := rfl
@[simp] theorem State.modFilters_target (s : State) (f : Filters → Filters) : (s.modFilters f).target = s.target := rfl
@[simp] theorem State.modFilters_oil (s : State) (f : Filters → Filters) : (s.modFilters f).oil = s.oil := rfl
@[simp] theorem State.modFilters_engine (s : State) (f : Filters → Filters) : (s.modFilters f).engine = s.engine := rfl
@[simp] theorem State.modFilters_sequencers (s : State) (f : Filters → Filters) : (s.modFilters f).sequencers = s.sequencers := rfl
@[simp] theorem State.modFilters_controllers (s : State) (f : Filters → Filters) : (s.modFilters f).controllers = s.controllers := rfl
@[simp] theorem State.modFilters_drivers (s : State) (f : Filters → Filters) : (s.modFilters f).drivers = s.drivers := rfl
@[simp] theorem State.modFilters_conditions (s : State) (f : Filters → Filters) : (s.modFilters f).conditions = s.conditions := rfl
@[simp] theorem State.modFilters_sense (s : State) (f : Filters → Filters) : (s.modFilters f).sense = s.sense := rfl
@[simp] theorem State.modFilters_link (s : State) (f : Filters → Filters) : (s.modFilters f).link = s.link := rfl
@[simp] theorem State.modFilters_store (s : State) (f : Filters → Filters) : (s.modFilters f).store = s.store := rfl
@[simp] theorem State.modFilters_straps (s : State) (f : Filters → Filters) : (s.modFilters f).straps = s.straps := rfl
@[simp] theorem State.modFilters_faults (s : State) (f : Filters → Filters) : (s.modFilters f).faults = s.faults := rfl

@[simp] theorem State.modDecoder_pending (s : State) (f : Decoder → Decoder) : (s.modDecoder f).pending = s.pending := rfl
@[simp] theorem State.modDecoder_supplyLow (s : State) (f : Decoder → Decoder) : (s.modDecoder f).supplyLow = s.supplyLow := rfl
@[simp] theorem State.modDecoder_timers (s : State) (f : Decoder → Decoder) : (s.modDecoder f).timers = s.timers := rfl
@[simp] theorem State.modDecoder_filters (s : State) (f : Decoder → Decoder) : (s.modDecoder f).filters = s.filters := rfl
@[simp] theorem State.modDecoder_decoder (s : State) (f : Decoder → Decoder) : (s.modDecoder f).decoder = f s.decoder := rfl
@[simp] theorem State.modDecoder_meters (s : State) (f : Decoder → Decoder) : (s.modDecoder f).meters = s.meters := rfl
@[simp] theorem State.modDecoder_target (s : State) (f : Decoder → Decoder) : (s.modDecoder f).target = s.target := rfl
@[simp] theorem State.modDecoder_oil (s : State) (f : Decoder → Decoder) : (s.modDecoder f).oil = s.oil := rfl
@[simp] theorem State.modDecoder_engine (s : State) (f : Decoder → Decoder) : (s.modDecoder f).engine = s.engine := rfl
@[simp] theorem State.modDecoder_sequencers (s : State) (f : Decoder → Decoder) : (s.modDecoder f).sequencers = s.sequencers := rfl
@[simp] theorem State.modDecoder_controllers (s : State) (f : Decoder → Decoder) : (s.modDecoder f).controllers = s.controllers := rfl
@[simp] theorem State.modDecoder_drivers (s : State) (f : Decoder → Decoder) : (s.modDecoder f).drivers = s.drivers := rfl
@[simp] theorem State.modDecoder_conditions (s : State) (f : Decoder → Decoder) : (s.modDecoder f).conditions = s.conditions := rfl
@[simp] theorem State.modDecoder_sense (s : State) (f : Decoder → Decoder) : (s.modDecoder f).sense = s.sense := rfl
@[simp] theorem State.modDecoder_link (s : State) (f : Decoder → Decoder) : (s.modDecoder f).link = s.link := rfl
@[simp] theorem State.modDecoder_store (s : State) (f : Decoder → Decoder) : (s.modDecoder f).store = s.store := rfl
@[simp] theorem State.modDecoder_straps (s : State) (f : Decoder → Decoder) : (s.modDecoder f).straps = s.straps := rfl
@[simp] theorem State.modDecoder_faults (s : State) (f : Decoder → Decoder) : (s.modDecoder f).faults = s.faults := rfl

@[simp] theorem State.modTarget_pending (s : State) (f : TargetUnit → TargetUnit) : (s.modTarget f).pending = s.pending := rfl
@[simp] theorem State.modTarget_supplyLow (s : State) (f : TargetUnit → TargetUnit) : (s.modTarget f).supplyLow = s.supplyLow := rfl
@[simp] theorem State.modTarget_timers (s : State) (f : TargetUnit → TargetUnit) : (s.modTarget f).timers = s.timers := rfl
@[simp] theorem State.modTarget_filters (s : State) (f : TargetUnit → TargetUnit) : (s.modTarget f).filters = s.filters := rfl
@[simp] theorem State.modTarget_decoder (s : State) (f : TargetUnit → TargetUnit) : (s.modTarget f).decoder = s.decoder := rfl
@[simp] theorem State.modTarget_meters (s : State) (f : TargetUnit → TargetUnit) : (s.modTarget f).meters = s.meters := rfl
@[simp] theorem State.modTarget_target (s : State) (f : TargetUnit → TargetUnit) : (s.modTarget f).target = f s.target := rfl
@[simp] theorem State.modTarget_oil (s : State) (f : TargetUnit → TargetUnit) : (s.modTarget f).oil = s.oil := rfl
@[simp] theorem State.modTarget_engine (s : State) (f : TargetUnit → TargetUnit) : (s.modTarget f).engine = s.engine := rfl
@[simp] theorem State.modTarget_sequencers (s : State) (f : TargetUnit → TargetUnit) : (s.modTarget f).sequencers = s.sequencers := rfl
@[simp] theorem State.modTarget_controllers (s : State) (f : TargetUnit → TargetUnit) : (s.modTarget f).controllers = s.controllers := rfl
@[simp] theorem State.modTarget_drivers (s : State) (f : TargetUnit → TargetUnit) : (s.modTarget f).drivers = s.drivers := rfl
@[simp] theorem State.modTarget_conditions (s : State) (f : TargetUnit → TargetUnit) : (s.modTarget f).conditions = s.conditions := rfl
@[simp] theorem State.modTarget_sense (s : State) (f : TargetUnit → TargetUnit) : (s.modTarget f).sense = s.sense := rfl
@[simp] theorem State.modTarget_link (s : State) (f : TargetUnit → TargetUnit) : (s.modTarget f).link = s.link := rfl
@[simp] theorem State.modTarget_store (s : State) (f : TargetUnit → TargetUnit) : (s.modTarget f).store = s.store := rfl
@[simp] theorem State.modTarget_straps (s : State) (f : TargetUnit → TargetUnit) : (s.modTarget f).straps = s.straps := rfl
@[simp] theorem State.modTarget_faults (s : State) (f : TargetUnit → TargetUnit) : (s.modTarget f).faults = s.faults := rfl

@[simp] theorem State.modOil_pending (s : State) (f : OilUnit → OilUnit) : (s.modOil f).pending = s.pending := rfl
@[simp] theorem State.modOil_supplyLow (s : State) (f : OilUnit → OilUnit) : (s.modOil f).supplyLow = s.supplyLow := rfl
@[simp] theorem State.modOil_timers (s : State) (f : OilUnit → OilUnit) : (s.modOil f).timers = s.timers := rfl
@[simp] theorem State.modOil_filters (s : State) (f : OilUnit → OilUnit) : (s.modOil f).filters = s.filters := rfl
@[simp] theorem State.modOil_decoder (s : State) (f : OilUnit → OilUnit) : (s.modOil f).decoder = s.decoder := rfl
@[simp] theorem State.modOil_meters (s : State) (f : OilUnit → OilUnit) : (s.modOil f).meters = s.meters := rfl
@[simp] theorem State.modOil_target (s : State) (f : OilUnit → OilUnit) : (s.modOil f).target = s.target := rfl
@[simp] theorem State.modOil_oil (s : State) (f : OilUnit → OilUnit) : (s.modOil f).oil = f s.oil := rfl
@[simp] theorem State.modOil_engine (s : State) (f : OilUnit → OilUnit) : (s.modOil f).engine = s.engine := rfl
@[simp] theorem State.modOil_sequencers (s : State) (f : OilUnit → OilUnit) : (s.modOil f).sequencers = s.sequencers := rfl
@[simp] theorem State.modOil_controllers (s : State) (f : OilUnit → OilUnit) : (s.modOil f).controllers = s.controllers := rfl
@[simp] theorem State.modOil_drivers (s : State) (f : OilUnit → OilUnit) : (s.modOil f).drivers = s.drivers := rfl
@[simp] theorem State.modOil_conditions (s : State) (f : OilUnit → OilUnit) : (s.modOil f).conditions = s.conditions := rfl
@[simp] theorem State.modOil_sense (s : State) (f : OilUnit → OilUnit) : (s.modOil f).sense = s.sense := rfl
@[simp] theorem State.modOil_link (s : State) (f : OilUnit → OilUnit) : (s.modOil f).link = s.link := rfl
@[simp] theorem State.modOil_store (s : State) (f : OilUnit → OilUnit) : (s.modOil f).store = s.store := rfl
@[simp] theorem State.modOil_straps (s : State) (f : OilUnit → OilUnit) : (s.modOil f).straps = s.straps := rfl
@[simp] theorem State.modOil_faults (s : State) (f : OilUnit → OilUnit) : (s.modOil f).faults = s.faults := rfl

@[simp] theorem State.modEngine_pending (s : State) (f : EngineStore → EngineStore) : (s.modEngine f).pending = s.pending := rfl
@[simp] theorem State.modEngine_supplyLow (s : State) (f : EngineStore → EngineStore) : (s.modEngine f).supplyLow = s.supplyLow := rfl
@[simp] theorem State.modEngine_timers (s : State) (f : EngineStore → EngineStore) : (s.modEngine f).timers = s.timers := rfl
@[simp] theorem State.modEngine_filters (s : State) (f : EngineStore → EngineStore) : (s.modEngine f).filters = s.filters := rfl
@[simp] theorem State.modEngine_decoder (s : State) (f : EngineStore → EngineStore) : (s.modEngine f).decoder = s.decoder := rfl
@[simp] theorem State.modEngine_meters (s : State) (f : EngineStore → EngineStore) : (s.modEngine f).meters = s.meters := rfl
@[simp] theorem State.modEngine_target (s : State) (f : EngineStore → EngineStore) : (s.modEngine f).target = s.target := rfl
@[simp] theorem State.modEngine_oil (s : State) (f : EngineStore → EngineStore) : (s.modEngine f).oil = s.oil := rfl
@[simp] theorem State.modEngine_engine (s : State) (f : EngineStore → EngineStore) : (s.modEngine f).engine = f s.engine := rfl
@[simp] theorem State.modEngine_sequencers (s : State) (f : EngineStore → EngineStore) : (s.modEngine f).sequencers = s.sequencers := rfl
@[simp] theorem State.modEngine_controllers (s : State) (f : EngineStore → EngineStore) : (s.modEngine f).controllers = s.controllers := rfl
@[simp] theorem State.modEngine_drivers (s : State) (f : EngineStore → EngineStore) : (s.modEngine f).drivers = s.drivers := rfl
@[simp] theorem State.modEngine_conditions (s : State) (f : EngineStore → EngineStore) : (s.modEngine f).conditions = s.conditions := rfl
@[simp] theorem State.modEngine_sense (s : State) (f : EngineStore → EngineStore) : (s.modEngine f).sense = s.sense := rfl
@[simp] theorem State.modEngine_link (s : State) (f : EngineStore → EngineStore) : (s.modEngine f).link = s.link := rfl
@[simp] theorem State.modEngine_store (s : State) (f : EngineStore → EngineStore) : (s.modEngine f).store = s.store := rfl
@[simp] theorem State.modEngine_straps (s : State) (f : EngineStore → EngineStore) : (s.modEngine f).straps = s.straps := rfl
@[simp] theorem State.modEngine_faults (s : State) (f : EngineStore → EngineStore) : (s.modEngine f).faults = s.faults := rfl

@[simp] theorem State.modConditions_pending (s : State) (f : Conditions → Conditions) : (s.modConditions f).pending = s.pending := rfl
@[simp] theorem State.modConditions_supplyLow (s : State) (f : Conditions → Conditions) : (s.modConditions f).supplyLow = s.supplyLow := rfl
@[simp] theorem State.modConditions_timers (s : State) (f : Conditions → Conditions) : (s.modConditions f).timers = s.timers := rfl
@[simp] theorem State.modConditions_filters (s : State) (f : Conditions → Conditions) : (s.modConditions f).filters = s.filters := rfl
@[simp] theorem State.modConditions_decoder (s : State) (f : Conditions → Conditions) : (s.modConditions f).decoder = s.decoder := rfl
@[simp] theorem State.modConditions_meters (s : State) (f : Conditions → Conditions) : (s.modConditions f).meters = s.meters := rfl
@[simp] theorem State.modConditions_target (s : State) (f : Conditions → Conditions) : (s.modConditions f).target = s.target := rfl
@[simp] theorem State.modConditions_oil (s : State) (f : Conditions → Conditions) : (s.modConditions f).oil = s.oil := rfl
@[simp] theorem State.modConditions_engine (s : State) (f : Conditions → Conditions) : (s.modConditions f).engine = s.engine := rfl
@[simp] theorem State.modConditions_sequencers (s : State) (f : Conditions → Conditions) : (s.modConditions f).sequencers = s.sequencers := rfl
@[simp] theorem State.modConditions_controllers (s : State) (f : Conditions → Conditions) : (s.modConditions f).controllers = s.controllers := rfl
@[simp] theorem State.modConditions_drivers (s : State) (f : Conditions → Conditions) : (s.modConditions f).drivers = s.drivers := rfl
@[simp] theorem State.modConditions_conditions (s : State) (f : Conditions → Conditions) : (s.modConditions f).conditions = f s.conditions := rfl
@[simp] theorem State.modConditions_sense (s : State) (f : Conditions → Conditions) : (s.modConditions f).sense = s.sense := rfl
@[simp] theorem State.modConditions_link (s : State) (f : Conditions → Conditions) : (s.modConditions f).link = s.link := rfl
@[simp] theorem State.modConditions_store (s : State) (f : Conditions → Conditions) : (s.modConditions f).store = s.store := rfl
@[simp] theorem State.modConditions_straps (s : State) (f : Conditions → Conditions) : (s.modConditions f).straps = s.straps := rfl
@[simp] theorem State.modConditions_faults (s : State) (f : Conditions → Conditions) : (s.modConditions f).faults = s.faults := rfl

@[simp] theorem State.modSense_pending (s : State) (f : Sense → Sense) : (s.modSense f).pending = s.pending := rfl
@[simp] theorem State.modSense_supplyLow (s : State) (f : Sense → Sense) : (s.modSense f).supplyLow = s.supplyLow := rfl
@[simp] theorem State.modSense_timers (s : State) (f : Sense → Sense) : (s.modSense f).timers = s.timers := rfl
@[simp] theorem State.modSense_filters (s : State) (f : Sense → Sense) : (s.modSense f).filters = s.filters := rfl
@[simp] theorem State.modSense_decoder (s : State) (f : Sense → Sense) : (s.modSense f).decoder = s.decoder := rfl
@[simp] theorem State.modSense_meters (s : State) (f : Sense → Sense) : (s.modSense f).meters = s.meters := rfl
@[simp] theorem State.modSense_target (s : State) (f : Sense → Sense) : (s.modSense f).target = s.target := rfl
@[simp] theorem State.modSense_oil (s : State) (f : Sense → Sense) : (s.modSense f).oil = s.oil := rfl
@[simp] theorem State.modSense_engine (s : State) (f : Sense → Sense) : (s.modSense f).engine = s.engine := rfl
@[simp] theorem State.modSense_sequencers (s : State) (f : Sense → Sense) : (s.modSense f).sequencers = s.sequencers := rfl
@[simp] theorem State.modSense_controllers (s : State) (f : Sense → Sense) : (s.modSense f).controllers = s.controllers := rfl
@[simp] theorem State.modSense_drivers (s : State) (f : Sense → Sense) : (s.modSense f).drivers = s.drivers := rfl
@[simp] theorem State.modSense_conditions (s : State) (f : Sense → Sense) : (s.modSense f).conditions = s.conditions := rfl
@[simp] theorem State.modSense_sense (s : State) (f : Sense → Sense) : (s.modSense f).sense = f s.sense := rfl
@[simp] theorem State.modSense_link (s : State) (f : Sense → Sense) : (s.modSense f).link = s.link := rfl
@[simp] theorem State.modSense_store (s : State) (f : Sense → Sense) : (s.modSense f).store = s.store := rfl
@[simp] theorem State.modSense_straps (s : State) (f : Sense → Sense) : (s.modSense f).straps = s.straps := rfl
@[simp] theorem State.modSense_faults (s : State) (f : Sense → Sense) : (s.modSense f).faults = s.faults := rfl

@[simp] theorem State.modLink_pending (s : State) (f : Link → Link) : (s.modLink f).pending = s.pending := rfl
@[simp] theorem State.modLink_supplyLow (s : State) (f : Link → Link) : (s.modLink f).supplyLow = s.supplyLow := rfl
@[simp] theorem State.modLink_timers (s : State) (f : Link → Link) : (s.modLink f).timers = s.timers := rfl
@[simp] theorem State.modLink_filters (s : State) (f : Link → Link) : (s.modLink f).filters = s.filters := rfl
@[simp] theorem State.modLink_decoder (s : State) (f : Link → Link) : (s.modLink f).decoder = s.decoder := rfl
@[simp] theorem State.modLink_meters (s : State) (f : Link → Link) : (s.modLink f).meters = s.meters := rfl
@[simp] theorem State.modLink_target (s : State) (f : Link → Link) : (s.modLink f).target = s.target := rfl
@[simp] theorem State.modLink_oil (s : State) (f : Link → Link) : (s.modLink f).oil = s.oil := rfl
@[simp] theorem State.modLink_engine (s : State) (f : Link → Link) : (s.modLink f).engine = s.engine := rfl
@[simp] theorem State.modLink_sequencers (s : State) (f : Link → Link) : (s.modLink f).sequencers = s.sequencers := rfl
@[simp] theorem State.modLink_controllers (s : State) (f : Link → Link) : (s.modLink f).controllers = s.controllers := rfl
@[simp] theorem State.modLink_drivers (s : State) (f : Link → Link) : (s.modLink f).drivers = s.drivers := rfl
@[simp] theorem State.modLink_conditions (s : State) (f : Link → Link) : (s.modLink f).conditions = s.conditions := rfl
@[simp] theorem State.modLink_sense (s : State) (f : Link → Link) : (s.modLink f).sense = s.sense := rfl
@[simp] theorem State.modLink_link (s : State) (f : Link → Link) : (s.modLink f).link = f s.link := rfl
@[simp] theorem State.modLink_store (s : State) (f : Link → Link) : (s.modLink f).store = s.store := rfl
@[simp] theorem State.modLink_straps (s : State) (f : Link → Link) : (s.modLink f).straps = s.straps := rfl
@[simp] theorem State.modLink_faults (s : State) (f : Link → Link) : (s.modLink f).faults = s.faults := rfl

@[simp] theorem State.modStore_pending (s : State) (f : Store → Store) : (s.modStore f).pending = s.pending := rfl
@[simp] theorem State.modStore_supplyLow (s : State) (f : Store → Store) : (s.modStore f).supplyLow = s.supplyLow := rfl
@[simp] theorem State.modStore_timers (s : State) (f : Store → Store) : (s.modStore f).timers = s.timers := rfl
@[simp] theorem State.modStore_filters (s : State) (f : Store → Store) : (s.modStore f).filters = s.filters := rfl
@[simp] theorem State.modStore_decoder (s : State) (f : Store → Store) : (s.modStore f).decoder = s.decoder := rfl
@[simp] theorem State.modStore_meters (s : State) (f : Store → Store) : (s.modStore f).meters = s.meters := rfl
@[simp] theorem State.modStore_target (s : State) (f : Store → Store) : (s.modStore f).target = s.target := rfl
@[simp] theorem State.modStore_oil (s : State) (f : Store → Store) : (s.modStore f).oil = s.oil := rfl
@[simp] theorem State.modStore_engine (s : State) (f : Store → Store) : (s.modStore f).engine = s.engine := rfl
@[simp] theorem State.modStore_sequencers (s : State) (f : Store → Store) : (s.modStore f).sequencers = s.sequencers := rfl
@[simp] theorem State.modStore_controllers (s : State) (f : Store → Store) : (s.modStore f).controllers = s.controllers := rfl
@[simp] theorem State.modStore_drivers (s : State) (f : Store → Store) : (s.modStore f).drivers = s.drivers := rfl
@[simp] theorem State.modStore_conditions (s : State) (f : Store → Store) : (s.modStore f).conditions = s.conditions := rfl
@[simp] theorem State.modStore_sense (s : State) (f : Store → Store) : (s.modStore f).sense = s.sense := rfl
@[simp] theorem State.modStore_link (s : State) (f : Store → Store) : (s.modStore f).link = s.link := rfl
@[simp] theorem State.modStore_store (s : State) (f : Store → Store) : (s.modStore f).store = f s.store := rfl
@[simp] theorem State.modStore_straps (s : State) (f : Store → Store) : (s.modStore f).straps = s.straps := rfl
@[simp] theorem State.modStore_faults (s : State) (f : Store → Store) : (s.modStore f).faults = s.faults := rfl

@[simp] theorem State.modFaults_pending (s : State) (f : Faults → Faults) : (s.modFaults f).pending = s.pending := rfl
@[simp] theorem State.modFaults_supplyLow (s : State) (f : Faults → Faults) : (s.modFaults f).supplyLow = s.supplyLow := rfl
@[simp] theorem State.modFaults_timers (s : State) (f : Faults → Faults) : (s.modFaults f).timers = s.timers := rfl
@[simp] theorem State.modFaults_filters (s : State) (f : Faults → Faults) : (s.modFaults f).filters = s.filters := rfl
@[simp] theorem State.modFaults_decoder (s : State) (f : Faults → Faults) : (s.modFaults f).decoder = s.decoder := rfl
@[simp] theorem State.modFaults_meters (s : State) (f : Faults → Faults) : (s.modFaults f).meters = s.meters := rfl
@[simp] theorem State.modFaults_target (s : State) (f : Faults → Faults) : (s.modFaults f).target = s.target := rfl
@[simp] theorem State.modFaults_oil (s : State) (f : Faults → Faults) : (s.modFaults f).oil = s.oil := rfl
@[simp] theorem State.modFaults_engine (s : State) (f : Faults → Faults) : (s.modFaults f).engine = s.engine := rfl
@[simp] theorem State.modFaults_sequencers (s : State) (f : Faults → Faults) : (s.modFaults f).sequencers = s.sequencers := rfl
@[simp] theorem State.modFaults_controllers (s : State) (f : Faults → Faults) : (s.modFaults f).controllers = s.controllers := rfl
@[simp] theorem State.modFaults_drivers (s : State) (f : Faults → Faults) : (s.modFaults f).drivers = s.drivers := rfl
@[simp] theorem State.modFaults_conditions (s : State) (f : Faults → Faults) : (s.modFaults f).conditions = s.conditions := rfl
@[simp] theorem State.modFaults_sense (s : State) (f : Faults → Faults) : (s.modFaults f).sense = s.sense := rfl
@[simp] theorem State.modFaults_link (s : State) (f : Faults → Faults) : (s.modFaults f).link = s.link := rfl
@[simp] theorem State.modFaults_store (s : State) (f : Faults → Faults) : (s.modFaults f).store = s.store := rfl
@[simp] theorem State.modFaults_straps (s : State) (f : Faults → Faults) : (s.modFaults f).straps = s.straps := rfl
@[simp] theorem State.modFaults_faults (s : State) (f : Faults → Faults) : (s.modFaults f).faults = f s.faults := rfl

@[simp] theorem State.modMeter_pending (s : State) (ch : Channel) (f : Meter → Meter) :
    (s.modMeter ch f).pending = s.pending := rfl
@[simp] theorem State.modMeter_supplyLow (s : State) (ch : Channel) (f : Meter → Meter) :
    (s.modMeter ch f).supplyLow = s.supplyLow := rfl
@[simp] theorem State.modMeter_timers (s : State) (ch : Channel) (f : Meter → Meter) :
    (s.modMeter ch f).timers = s.timers := rfl
@[simp] theorem State.modMeter_filters (s : State) (ch : Channel) (f : Meter → Meter) :
    (s.modMeter ch f).filters = s.filters := rfl
@[simp] theorem State.modMeter_decoder (s : State) (ch : Channel) (f : Meter → Meter) :
    (s.modMeter ch f).decoder = s.decoder := rfl
@[simp] theorem State.modMeter_meters (s : State) (ch : Channel) (f : Meter → Meter) :
    (s.modMeter ch f).meters = s.meters.set ch (f (s.meters.get ch)) := rfl
@[simp] theorem State.modMeter_target (s : State) (ch : Channel) (f : Meter → Meter) :
    (s.modMeter ch f).target = s.target := rfl
@[simp] theorem State.modMeter_oil (s : State) (ch : Channel) (f : Meter → Meter) :
    (s.modMeter ch f).oil = s.oil := rfl
@[simp] theorem State.modMeter_engine (s : State) (ch : Channel) (f : Meter → Meter) :
    (s.modMeter ch f).engine = s.engine := rfl
@[simp] theorem State.modMeter_sequencers (s : State) (ch : Channel) (f : Meter → Meter) :
    (s.modMeter ch f).sequencers = s.sequencers := rfl
@[simp] theorem State.modMeter_controllers (s : State) (ch : Channel) (f : Meter → Meter) :
    (s.modMeter ch f).controllers = s.controllers := rfl
@[simp] theorem State.modMeter_drivers (s : State) (ch : Channel) (f : Meter → Meter) :
    (s.modMeter ch f).drivers = s.drivers := rfl
@[simp] theorem State.modMeter_conditions (s : State) (ch : Channel) (f : Meter → Meter) :
    (s.modMeter ch f).conditions = s.conditions := rfl
@[simp] theorem State.modMeter_sense (s : State) (ch : Channel) (f : Meter → Meter) :
    (s.modMeter ch f).sense = s.sense := rfl
@[simp] theorem State.modMeter_link (s : State) (ch : Channel) (f : Meter → Meter) :
    (s.modMeter ch f).link = s.link := rfl
@[simp] theorem State.modMeter_store (s : State) (ch : Channel) (f : Meter → Meter) :
    (s.modMeter ch f).store = s.store := rfl
@[simp] theorem State.modMeter_straps (s : State) (ch : Channel) (f : Meter → Meter) :
    (s.modMeter ch f).straps = s.straps := rfl
@[simp] theorem State.modMeter_faults (s : State) (ch : Channel) (f : Meter → Meter) :
    (s.modMeter ch f).faults = s.faults := rfl

@[simp] theorem State.modSequencer_pending (s : State) (ch : Channel) (f : Sequencer → Sequencer) :
    (s.modSequencer ch f).pending = s.pending := rfl
@[simp] theorem State.modSequencer_supplyLow (s : State) (ch : Channel) (f : Sequencer → Sequencer) :
    (s.modSequencer ch f).supplyLow = s.supplyLow := rfl
@[simp] theorem State.modSequencer_timers (s : State) (ch : Channel) (f : Sequencer → Sequencer) :
    (s.modSequencer ch f).timers = s.timers := rfl
@[simp] theorem State.modSequencer_filters (s : State) (ch : Channel) (f : Sequencer → Sequencer) :
    (s.modSequencer ch f).filters = s.filters := rfl
@[simp] theorem State.modSequencer_decoder (s : State) (ch : Channel) (f : Sequencer → Sequencer) :
    (s.modSequencer ch f).decoder = s.decoder := rfl
@[simp] theorem State.modSequencer_meters (s : State) (ch : Channel) (f : Sequencer → Sequencer) :
    (s.modSequencer ch f).meters = s.meters := rfl
@[simp] theorem State.modSequencer_target (s : State) (ch : Channel) (f : Sequencer → Sequencer) :
    (s.modSequencer ch f).target = s.target := rfl
@[simp] theorem State.modSequencer_oil (s : State) (ch : Channel) (f : Sequencer → Sequencer) :
    (s.modSequencer ch f).oil = s.oil := rfl
@[simp] theorem State.modSequencer_engine (s : State) (ch : Channel) (f : Sequencer → Sequencer) :
    (s.modSequencer ch f).engine = s.engine := rfl
@[simp] theorem State.modSequencer_sequencers (s : State) (ch : Channel) (f : Sequencer → Sequencer) :
    (s.modSequencer ch f).sequencers = s.sequencers.set ch (f (s.sequencers.get ch)) := rfl
@[simp] theorem State.modSequencer_controllers (s : State) (ch : Channel) (f : Sequencer → Sequencer) :
    (s.modSequencer ch f).controllers = s.controllers := rfl
@[simp] theorem State.modSequencer_drivers (s : State) (ch : Channel) (f : Sequencer → Sequencer) :
    (s.modSequencer ch f).drivers = s.drivers := rfl
@[simp] theorem State.modSequencer_conditions (s : State) (ch : Channel) (f : Sequencer → Sequencer) :
    (s.modSequencer ch f).conditions = s.conditions := rfl
@[simp] theorem State.modSequencer_sense (s : State) (ch : Channel) (f : Sequencer → Sequencer) :
    (s.modSequencer ch f).sense = s.sense := rfl
@[simp] theorem State.modSequencer_link (s : State) (ch : Channel) (f : Sequencer → Sequencer) :
    (s.modSequencer ch f).link = s.link := rfl
@[simp] theorem State.modSequencer_store (s : State) (ch : Channel) (f : Sequencer → Sequencer) :
    (s.modSequencer ch f).store = s.store := rfl
@[simp] theorem State.modSequencer_straps (s : State) (ch : Channel) (f : Sequencer → Sequencer) :
    (s.modSequencer ch f).straps = s.straps := rfl
@[simp] theorem State.modSequencer_faults (s : State) (ch : Channel) (f : Sequencer → Sequencer) :
    (s.modSequencer ch f).faults = s.faults := rfl

@[simp] theorem State.modController_pending (s : State) (ch : Channel) (f : Controller → Controller) :
    (s.modController ch f).pending = s.pending := rfl
@[simp] theorem State.modController_supplyLow (s : State) (ch : Channel) (f : Controller → Controller) :
    (s.modController ch f).supplyLow = s.supplyLow := rfl
@[simp] theorem State.modController_timers (s : State) (ch : Channel) (f : Controller → Controller) :
    (s.modController ch f).timers = s.timers := rfl
@[simp] theorem State.modController_filters (s : State) (ch : Channel) (f : Controller → Controller) :
    (s.modController ch f).filters = s.filters := rfl
@[simp] theorem State.modController_decoder (s : State) (ch : Channel) (f : Controller → Controller) :
    (s.modController ch f).decoder = s.decoder := rfl
@[simp] theorem State.modController_meters (s : State) (ch : Channel) (f : Controller → Controller) :
    (s.modController ch f).meters = s.meters := rfl
@[simp] theorem State.modController_target (s : State) (ch : Channel) (f : Controller → Controller) :
    (s.modController ch f).target = s.target := rfl
@[simp] theorem State.modController_oil (s : State) (ch : Channel) (f : Controller → Controller) :
    (s.modController ch f).oil = s.oil := rfl
@[simp] theorem State.modController_engine (s : State) (ch : Channel) (f : Controller → Controller) :
    (s.modController ch f).engine = s.engine := rfl
@[simp] theorem State.modController_sequencers (s : State) (ch : Channel) (f : Controller → Controller) :
    (s.modController ch f).sequencers = s.sequencers := rfl
@[simp] theorem State.modController_controllers (s : State) (ch : Channel) (f : Controller → Controller) :
    (s.modController ch f).controllers = s.controllers.set ch (f (s.controllers.get ch)) := rfl
@[simp] theorem State.modController_drivers (s : State) (ch : Channel) (f : Controller → Controller) :
    (s.modController ch f).drivers = s.drivers := rfl
@[simp] theorem State.modController_conditions (s : State) (ch : Channel) (f : Controller → Controller) :
    (s.modController ch f).conditions = s.conditions := rfl
@[simp] theorem State.modController_sense (s : State) (ch : Channel) (f : Controller → Controller) :
    (s.modController ch f).sense = s.sense := rfl
@[simp] theorem State.modController_link (s : State) (ch : Channel) (f : Controller → Controller) :
    (s.modController ch f).link = s.link := rfl
@[simp] theorem State.modController_store (s : State) (ch : Channel) (f : Controller → Controller) :
    (s.modController ch f).store = s.store := rfl
@[simp] theorem State.modController_straps (s : State) (ch : Channel) (f : Controller → Controller) :
    (s.modController ch f).straps = s.straps := rfl
@[simp] theorem State.modController_faults (s : State) (ch : Channel) (f : Controller → Controller) :
    (s.modController ch f).faults = s.faults := rfl

@[simp] theorem State.modDriver_pending (s : State) (ch : Channel) (f : Driver → Driver) :
    (s.modDriver ch f).pending = s.pending := rfl
@[simp] theorem State.modDriver_supplyLow (s : State) (ch : Channel) (f : Driver → Driver) :
    (s.modDriver ch f).supplyLow = s.supplyLow := rfl
@[simp] theorem State.modDriver_timers (s : State) (ch : Channel) (f : Driver → Driver) :
    (s.modDriver ch f).timers = s.timers := rfl
@[simp] theorem State.modDriver_filters (s : State) (ch : Channel) (f : Driver → Driver) :
    (s.modDriver ch f).filters = s.filters := rfl
@[simp] theorem State.modDriver_decoder (s : State) (ch : Channel) (f : Driver → Driver) :
    (s.modDriver ch f).decoder = s.decoder := rfl
@[simp] theorem State.modDriver_meters (s : State) (ch : Channel) (f : Driver → Driver) :
    (s.modDriver ch f).meters = s.meters := rfl
@[simp] theorem State.modDriver_target (s : State) (ch : Channel) (f : Driver → Driver) :
    (s.modDriver ch f).target = s.target := rfl
@[simp] theorem State.modDriver_oil (s : State) (ch : Channel) (f : Driver → Driver) :
    (s.modDriver ch f).oil = s.oil := rfl
@[simp] theorem State.modDriver_engine (s : State) (ch : Channel) (f : Driver → Driver) :
    (s.modDriver ch f).engine = s.engine := rfl
@[simp] theorem State.modDriver_sequencers (s : State) (ch : Channel) (f : Driver → Driver) :
    (s.modDriver ch f).sequencers = s.sequencers := rfl
@[simp] theorem State.modDriver_controllers (s : State) (ch : Channel) (f : Driver → Driver) :
    (s.modDriver ch f).controllers = s.controllers := rfl
@[simp] theorem State.modDriver_drivers (s : State) (ch : Channel) (f : Driver → Driver) :
    (s.modDriver ch f).drivers = s.drivers.set ch (f (s.drivers.get ch)) := rfl
@[simp] theorem State.modDriver_conditions (s : State) (ch : Channel) (f : Driver → Driver) :
    (s.modDriver ch f).conditions = s.conditions := rfl
@[simp] theorem State.modDriver_sense (s : State) (ch : Channel) (f : Driver → Driver) :
    (s.modDriver ch f).sense = s.sense := rfl
@[simp] theorem State.modDriver_link (s : State) (ch : Channel) (f : Driver → Driver) :
    (s.modDriver ch f).link = s.link := rfl
@[simp] theorem State.modDriver_store (s : State) (ch : Channel) (f : Driver → Driver) :
    (s.modDriver ch f).store = s.store := rfl
@[simp] theorem State.modDriver_straps (s : State) (ch : Channel) (f : Driver → Driver) :
    (s.modDriver ch f).straps = s.straps := rfl
@[simp] theorem State.modDriver_faults (s : State) (ch : Channel) (f : Driver → Driver) :
    (s.modDriver ch f).faults = s.faults := rfl

end Sys2Proof.Machine
end

