-- ==== Sys2Proof/Laws/Operations.lean ====
section
/-! SUPPORT. For each shared operation, the items of the state it leaves as they are: one frame lemma an operation. -/

namespace Sys2Proof.Machine

@[simp] theorem State.eachChannel_def (s : State) (f : State → Channel → State) : s.eachChannel f = f (f s .a) .b := rfl

@[simp] theorem State.computeDuty_frame (s : State) (ch : Channel) :
    (s.computeDuty ch).pending = s.pending ∧
    (s.computeDuty ch).supplyLow = s.supplyLow ∧
    (s.computeDuty ch).timers = s.timers ∧
    (s.computeDuty ch).filters = s.filters ∧
    (s.computeDuty ch).decoder = s.decoder ∧
    (s.computeDuty ch).meters = s.meters ∧
    (s.computeDuty ch).target = s.target ∧
    (s.computeDuty ch).oil = s.oil ∧
    (s.computeDuty ch).engine = s.engine ∧
    (s.computeDuty ch).sequencers = s.sequencers ∧
    (s.computeDuty ch).controllers = s.controllers ∧
    (s.computeDuty ch).conditions = s.conditions ∧
    (s.computeDuty ch).sense = s.sense ∧
    (s.computeDuty ch).link = s.link ∧
    (s.computeDuty ch).store = s.store ∧
    (s.computeDuty ch).straps = s.straps ∧
    (s.computeDuty ch).faults = s.faults := by
  refine ⟨?_, ?_, ?_, ?_, ?_, ?_, ?_, ?_, ?_, ?_, ?_, ?_, ?_, ?_, ?_, ?_, ?_⟩ <;> simp [State.computeDuty]

@[simp] theorem State.startBlanking_frame (s : State) (ch : Channel) :
    (s.startBlanking ch).pending = s.pending ∧
    (s.startBlanking ch).supplyLow = s.supplyLow ∧
    (s.startBlanking ch).filters = s.filters ∧
    (s.startBlanking ch).decoder = s.decoder ∧
    (s.startBlanking ch).meters = s.meters ∧
    (s.startBlanking ch).target = s.target ∧
    (s.startBlanking ch).oil = s.oil ∧
    (s.startBlanking ch).engine = s.engine ∧
    (s.startBlanking ch).sequencers = s.sequencers ∧
    (s.startBlanking ch).controllers = s.controllers ∧
    (s.startBlanking ch).drivers = s.drivers ∧
    (s.startBlanking ch).conditions = s.conditions ∧
    (s.startBlanking ch).sense = s.sense ∧
    (s.startBlanking ch).link = s.link ∧
    (s.startBlanking ch).store = s.store ∧
    (s.startBlanking ch).straps = s.straps ∧
    (s.startBlanking ch).faults = s.faults := by
  refine ⟨?_, ?_, ?_, ?_, ?_, ?_, ?_, ?_, ?_, ?_, ?_, ?_, ?_, ?_, ?_, ?_, ?_⟩ <;> simp [State.startBlanking]

@[simp] theorem State.setCommand_frame (s : State) (ch : Channel) (i : Nat) :
    (s.setCommand ch i).pending = s.pending ∧
    (s.setCommand ch i).supplyLow = s.supplyLow ∧
    (s.setCommand ch i).filters = s.filters ∧
    (s.setCommand ch i).decoder = s.decoder ∧
    (s.setCommand ch i).meters = s.meters ∧
    (s.setCommand ch i).target = s.target ∧
    (s.setCommand ch i).oil = s.oil ∧
    (s.setCommand ch i).engine = s.engine ∧
    (s.setCommand ch i).sequencers = s.sequencers ∧
    (s.setCommand ch i).conditions = s.conditions ∧
    (s.setCommand ch i).sense = s.sense ∧
    (s.setCommand ch i).link = s.link ∧
    (s.setCommand ch i).store = s.store ∧
    (s.setCommand ch i).straps = s.straps ∧
    (s.setCommand ch i).faults = s.faults := by
  refine ⟨?_, ?_, ?_, ?_, ?_, ?_, ?_, ?_, ?_, ?_, ?_, ?_, ?_, ?_, ?_⟩ <;> (simp only [State.setCommand]; repeat' split) <;> simp

@[simp] theorem State.setChannelState_frame (s : State) (ch : Channel) (new : ChannelState) :
    (s.setChannelState ch new).pending = s.pending ∧
    (s.setChannelState ch new).supplyLow = s.supplyLow ∧
    (s.setChannelState ch new).filters = s.filters ∧
    (s.setChannelState ch new).decoder = s.decoder ∧
    (s.setChannelState ch new).oil = s.oil ∧
    (s.setChannelState ch new).engine = s.engine ∧
    (s.setChannelState ch new).conditions = s.conditions ∧
    (s.setChannelState ch new).sense = s.sense ∧
    (s.setChannelState ch new).link = s.link ∧
    (s.setChannelState ch new).store = s.store ∧
    (s.setChannelState ch new).straps = s.straps ∧
    (s.setChannelState ch new).faults = s.faults := by
  refine ⟨?_, ?_, ?_, ?_, ?_, ?_, ?_, ?_, ?_, ?_, ?_, ?_⟩ <;> (simp only [State.setChannelState]; repeat' split) <;> simp

@[simp] theorem State.enterReturning_frame (s : State) (ch : Channel) :
    (s.enterReturning ch).pending = s.pending ∧
    (s.enterReturning ch).supplyLow = s.supplyLow ∧
    (s.enterReturning ch).filters = s.filters ∧
    (s.enterReturning ch).decoder = s.decoder ∧
    (s.enterReturning ch).oil = s.oil ∧
    (s.enterReturning ch).engine = s.engine ∧
    (s.enterReturning ch).conditions = s.conditions ∧
    (s.enterReturning ch).sense = s.sense ∧
    (s.enterReturning ch).link = s.link ∧
    (s.enterReturning ch).store = s.store ∧
    (s.enterReturning ch).straps = s.straps ∧
    (s.enterReturning ch).faults = s.faults := by
  refine ⟨?_, ?_, ?_, ?_, ?_, ?_, ?_, ?_, ?_, ?_, ?_, ?_⟩ <;> (simp only [State.enterReturning]; repeat' split) <;> simp

@[simp] theorem State.exitRunning_frame (s : State) (ch : Channel) :
    (s.exitRunning ch).pending = s.pending ∧
    (s.exitRunning ch).supplyLow = s.supplyLow ∧
    (s.exitRunning ch).filters = s.filters ∧
    (s.exitRunning ch).decoder = s.decoder ∧
    (s.exitRunning ch).oil = s.oil ∧
    (s.exitRunning ch).engine = s.engine ∧
    (s.exitRunning ch).conditions = s.conditions ∧
    (s.exitRunning ch).sense = s.sense ∧
    (s.exitRunning ch).link = s.link ∧
    (s.exitRunning ch).store = s.store ∧
    (s.exitRunning ch).straps = s.straps ∧
    (s.exitRunning ch).faults = s.faults := by
  refine ⟨?_, ?_, ?_, ?_, ?_, ?_, ?_, ?_, ?_, ?_, ?_, ?_⟩ <;> (simp only [State.exitRunning]; repeat' split) <;> simp

@[simp] theorem State.returnRunning_frame (s : State) :
    s.returnRunning.pending = s.pending ∧
    s.returnRunning.supplyLow = s.supplyLow ∧
    s.returnRunning.filters = s.filters ∧
    s.returnRunning.decoder = s.decoder ∧
    s.returnRunning.oil = s.oil ∧
    s.returnRunning.engine = s.engine ∧
    s.returnRunning.conditions = s.conditions ∧
    s.returnRunning.sense = s.sense ∧
    s.returnRunning.link = s.link ∧
    s.returnRunning.store = s.store ∧
    s.returnRunning.straps = s.straps ∧
    s.returnRunning.faults = s.faults := by
  refine ⟨?_, ?_, ?_, ?_, ?_, ?_, ?_, ?_, ?_, ?_, ?_, ?_⟩ <;> simp [State.returnRunning]

@[simp] theorem State.offer_frame (s : State) (k : SlotName) (f : Frame) :
    (s.offer k f).pending = s.pending ∧
    (s.offer k f).supplyLow = s.supplyLow ∧
    (s.offer k f).timers = s.timers ∧
    (s.offer k f).filters = s.filters ∧
    (s.offer k f).decoder = s.decoder ∧
    (s.offer k f).meters = s.meters ∧
    (s.offer k f).target = s.target ∧
    (s.offer k f).oil = s.oil ∧
    (s.offer k f).engine = s.engine ∧
    (s.offer k f).sequencers = s.sequencers ∧
    (s.offer k f).controllers = s.controllers ∧
    (s.offer k f).drivers = s.drivers ∧
    (s.offer k f).conditions = s.conditions ∧
    (s.offer k f).sense = s.sense ∧
    (s.offer k f).store = s.store ∧
    (s.offer k f).straps = s.straps ∧
    (s.offer k f).faults = s.faults := by
  refine ⟨?_, ?_, ?_, ?_, ?_, ?_, ?_, ?_, ?_, ?_, ?_, ?_, ?_, ?_, ?_, ?_, ?_⟩ <;> (simp only [State.offer]; repeat' split) <;> simp

@[simp] theorem State.queueStatus_frame (s : State) :
    s.queueStatus.pending = s.pending ∧
    s.queueStatus.supplyLow = s.supplyLow ∧
    s.queueStatus.timers = s.timers ∧
    s.queueStatus.filters = s.filters ∧
    s.queueStatus.decoder = s.decoder ∧
    s.queueStatus.meters = s.meters ∧
    s.queueStatus.target = s.target ∧
    s.queueStatus.oil = s.oil ∧
    s.queueStatus.engine = s.engine ∧
    s.queueStatus.sequencers = s.sequencers ∧
    s.queueStatus.controllers = s.controllers ∧
    s.queueStatus.drivers = s.drivers ∧
    s.queueStatus.conditions = s.conditions ∧
    s.queueStatus.sense = s.sense ∧
    s.queueStatus.store = s.store ∧
    s.queueStatus.straps = s.straps ∧
    s.queueStatus.faults = s.faults := by
  refine ⟨?_, ?_, ?_, ?_, ?_, ?_, ?_, ?_, ?_, ?_, ?_, ?_, ?_, ?_, ?_, ?_, ?_⟩ <;> simp [State.queueStatus]

@[simp] theorem State.startPulse_frame (s : State) :
    s.startPulse.pending = s.pending ∧
    s.startPulse.supplyLow = s.supplyLow ∧
    s.startPulse.filters = s.filters ∧
    s.startPulse.decoder = s.decoder ∧
    s.startPulse.meters = s.meters ∧
    s.startPulse.target = s.target ∧
    s.startPulse.oil = s.oil ∧
    s.startPulse.engine = s.engine ∧
    s.startPulse.sequencers = s.sequencers ∧
    s.startPulse.controllers = s.controllers ∧
    s.startPulse.drivers = s.drivers ∧
    s.startPulse.conditions = s.conditions ∧
    s.startPulse.sense = s.sense ∧
    s.startPulse.link = s.link ∧
    s.startPulse.store = s.store ∧
    s.startPulse.straps = s.straps ∧
    s.startPulse.faults = s.faults := by
  refine ⟨?_, ?_, ?_, ?_, ?_, ?_, ?_, ?_, ?_, ?_, ?_, ?_, ?_, ?_, ?_, ?_, ?_⟩ <;> (simp only [State.startPulse]; repeat' split) <;> simp

@[simp] theorem State.latchChannel_frame (s : State) (ch : Channel) (k : ChannelFault) :
    (s.latchChannel ch k).pending = s.pending ∧
    (s.latchChannel ch k).supplyLow = s.supplyLow ∧
    (s.latchChannel ch k).filters = s.filters ∧
    (s.latchChannel ch k).decoder = s.decoder ∧
    (s.latchChannel ch k).oil = s.oil ∧
    (s.latchChannel ch k).engine = s.engine ∧
    (s.latchChannel ch k).conditions = s.conditions ∧
    (s.latchChannel ch k).sense = s.sense ∧
    (s.latchChannel ch k).store = s.store ∧
    (s.latchChannel ch k).straps = s.straps := by
  refine ⟨?_, ?_, ?_, ?_, ?_, ?_, ?_, ?_, ?_, ?_⟩ <;> (simp only [State.latchChannel]; repeat' split) <;> simp

@[simp] theorem State.latchStation_frame (s : State) (k : StationFault) :
    (s.latchStation k).pending = s.pending ∧
    (s.latchStation k).supplyLow = s.supplyLow ∧
    (s.latchStation k).filters = s.filters ∧
    (s.latchStation k).decoder = s.decoder ∧
    (s.latchStation k).engine = s.engine ∧
    (s.latchStation k).conditions = s.conditions ∧
    (s.latchStation k).sense = s.sense ∧
    (s.latchStation k).store = s.store ∧
    (s.latchStation k).straps = s.straps := by
  refine ⟨?_, ?_, ?_, ?_, ?_, ?_, ?_, ?_, ?_⟩ <;> (simp only [State.latchStation]; repeat' split) <;> simp

@[simp] theorem State.targetCycleReference_frame (s : State) :
    s.targetCycleReference.pending = s.pending ∧
    s.targetCycleReference.supplyLow = s.supplyLow ∧
    s.targetCycleReference.filters = s.filters ∧
    s.targetCycleReference.decoder = s.decoder ∧
    s.targetCycleReference.oil = s.oil ∧
    s.targetCycleReference.engine = s.engine ∧
    s.targetCycleReference.conditions = s.conditions ∧
    s.targetCycleReference.sense = s.sense ∧
    s.targetCycleReference.link = s.link ∧
    s.targetCycleReference.store = s.store ∧
    s.targetCycleReference.straps = s.straps ∧
    s.targetCycleReference.faults = s.faults := by
  refine ⟨?_, ?_, ?_, ?_, ?_, ?_, ?_, ?_, ?_, ?_, ?_, ?_⟩ <;> (simp only [State.targetCycleReference]; repeat' split) <;> simp

@[simp] theorem State.ramp_frame (s : State) (ch : Channel) :
    (s.ramp ch).pending = s.pending ∧
    (s.ramp ch).supplyLow = s.supplyLow ∧
    (s.ramp ch).timers = s.timers ∧
    (s.ramp ch).filters = s.filters ∧
    (s.ramp ch).decoder = s.decoder ∧
    (s.ramp ch).meters = s.meters ∧
    (s.ramp ch).oil = s.oil ∧
    (s.ramp ch).engine = s.engine ∧
    (s.ramp ch).sequencers = s.sequencers ∧
    (s.ramp ch).controllers = s.controllers ∧
    (s.ramp ch).drivers = s.drivers ∧
    (s.ramp ch).conditions = s.conditions ∧
    (s.ramp ch).sense = s.sense ∧
    (s.ramp ch).link = s.link ∧
    (s.ramp ch).store = s.store ∧
    (s.ramp ch).straps = s.straps ∧
    (s.ramp ch).faults = s.faults := by
  refine ⟨?_, ?_, ?_, ?_, ?_, ?_, ?_, ?_, ?_, ?_, ?_, ?_, ?_, ?_, ?_, ?_, ?_⟩ <;> simp [State.ramp]

@[simp] theorem State.evaluateOil_frame (s : State) :
    s.evaluateOil.pending = s.pending ∧
    s.evaluateOil.supplyLow = s.supplyLow ∧
    s.evaluateOil.timers = s.timers ∧
    s.evaluateOil.filters = s.filters ∧
    s.evaluateOil.decoder = s.decoder ∧
    s.evaluateOil.meters = s.meters ∧
    s.evaluateOil.target = s.target ∧
    s.evaluateOil.engine = s.engine ∧
    s.evaluateOil.sequencers = s.sequencers ∧
    s.evaluateOil.controllers = s.controllers ∧
    s.evaluateOil.drivers = s.drivers ∧
    s.evaluateOil.conditions = s.conditions ∧
    s.evaluateOil.sense = s.sense ∧
    s.evaluateOil.link = s.link ∧
    s.evaluateOil.store = s.store ∧
    s.evaluateOil.straps = s.straps ∧
    s.evaluateOil.faults = s.faults := by
  refine ⟨?_, ?_, ?_, ?_, ?_, ?_, ?_, ?_, ?_, ?_, ?_, ?_, ?_, ?_, ?_, ?_, ?_⟩ <;> simp [State.evaluateOil]

@[simp] theorem State.oilConditions_frame (s : State) :
    s.oilConditions.pending = s.pending ∧
    s.oilConditions.supplyLow = s.supplyLow ∧
    s.oilConditions.filters = s.filters ∧
    s.oilConditions.decoder = s.decoder ∧
    s.oilConditions.engine = s.engine ∧
    s.oilConditions.conditions = s.conditions ∧
    s.oilConditions.sense = s.sense ∧
    s.oilConditions.link = s.link ∧
    s.oilConditions.store = s.store ∧
    s.oilConditions.straps = s.straps ∧
    s.oilConditions.faults = s.faults := by
  refine ⟨?_, ?_, ?_, ?_, ?_, ?_, ?_, ?_, ?_, ?_, ?_⟩ <;> (simp only [State.oilConditions]; repeat' split) <;> simp

@[simp] theorem State.budgetCompute_frame (s : State) :
    s.budgetCompute.pending = s.pending ∧
    s.budgetCompute.supplyLow = s.supplyLow ∧
    s.budgetCompute.timers = s.timers ∧
    s.budgetCompute.filters = s.filters ∧
    s.budgetCompute.decoder = s.decoder ∧
    s.budgetCompute.meters = s.meters ∧
    s.budgetCompute.target = s.target ∧
    s.budgetCompute.engine = s.engine ∧
    s.budgetCompute.sequencers = s.sequencers ∧
    s.budgetCompute.controllers = s.controllers ∧
    s.budgetCompute.drivers = s.drivers ∧
    s.budgetCompute.conditions = s.conditions ∧
    s.budgetCompute.sense = s.sense ∧
    s.budgetCompute.link = s.link ∧
    s.budgetCompute.store = s.store ∧
    s.budgetCompute.straps = s.straps ∧
    s.budgetCompute.faults = s.faults := by
  refine ⟨?_, ?_, ?_, ?_, ?_, ?_, ?_, ?_, ?_, ?_, ?_, ?_, ?_, ?_, ?_, ?_, ?_⟩ <;> simp [State.budgetCompute]

@[simp] theorem State.oilCycleReference_frame (s : State) :
    s.oilCycleReference.pending = s.pending ∧
    s.oilCycleReference.supplyLow = s.supplyLow ∧
    s.oilCycleReference.filters = s.filters ∧
    s.oilCycleReference.decoder = s.decoder ∧
    s.oilCycleReference.engine = s.engine ∧
    s.oilCycleReference.conditions = s.conditions ∧
    s.oilCycleReference.sense = s.sense ∧
    s.oilCycleReference.link = s.link ∧
    s.oilCycleReference.store = s.store ∧
    s.oilCycleReference.straps = s.straps ∧
    s.oilCycleReference.faults = s.faults := by
  refine ⟨?_, ?_, ?_, ?_, ?_, ?_, ?_, ?_, ?_, ?_, ?_⟩ <;> (simp only [State.oilCycleReference]; repeat' split) <;> simp

@[simp] theorem State.reachedTest_frame (s : State) (ch : Channel) (e : Int) :
    (s.reachedTest ch e).pending = s.pending ∧
    (s.reachedTest ch e).supplyLow = s.supplyLow ∧
    (s.reachedTest ch e).timers = s.timers ∧
    (s.reachedTest ch e).filters = s.filters ∧
    (s.reachedTest ch e).decoder = s.decoder ∧
    (s.reachedTest ch e).meters = s.meters ∧
    (s.reachedTest ch e).oil = s.oil ∧
    (s.reachedTest ch e).engine = s.engine ∧
    (s.reachedTest ch e).sequencers = s.sequencers ∧
    (s.reachedTest ch e).drivers = s.drivers ∧
    (s.reachedTest ch e).conditions = s.conditions ∧
    (s.reachedTest ch e).sense = s.sense ∧
    (s.reachedTest ch e).link = s.link ∧
    (s.reachedTest ch e).store = s.store ∧
    (s.reachedTest ch e).straps = s.straps ∧
    (s.reachedTest ch e).faults = s.faults := by
  refine ⟨?_, ?_, ?_, ?_, ?_, ?_, ?_, ?_, ?_, ?_, ?_, ?_, ?_, ?_, ?_, ?_⟩ <;> (simp only [State.reachedTest]; repeat' split) <;> simp

@[simp] theorem State.trackErrorUpdate_frame (s : State) (ch : Channel) (e : Int) :
    (s.trackErrorUpdate ch e).pending = s.pending ∧
    (s.trackErrorUpdate ch e).supplyLow = s.supplyLow ∧
    (s.trackErrorUpdate ch e).filters = s.filters ∧
    (s.trackErrorUpdate ch e).decoder = s.decoder ∧
    (s.trackErrorUpdate ch e).oil = s.oil ∧
    (s.trackErrorUpdate ch e).engine = s.engine ∧
    (s.trackErrorUpdate ch e).conditions = s.conditions ∧
    (s.trackErrorUpdate ch e).sense = s.sense ∧
    (s.trackErrorUpdate ch e).store = s.store ∧
    (s.trackErrorUpdate ch e).straps = s.straps := by
  refine ⟨?_, ?_, ?_, ?_, ?_, ?_, ?_, ?_, ?_, ?_⟩ <;> (simp only [State.trackErrorUpdate]; repeat' split) <;> simp

@[simp] theorem State.controlUpdate_frame (s : State) (ch : Channel) (phase : Int) :
    (s.controlUpdate ch phase).pending = s.pending ∧
    (s.controlUpdate ch phase).supplyLow = s.supplyLow ∧
    (s.controlUpdate ch phase).filters = s.filters ∧
    (s.controlUpdate ch phase).decoder = s.decoder ∧
    (s.controlUpdate ch phase).oil = s.oil ∧
    (s.controlUpdate ch phase).engine = s.engine ∧
    (s.controlUpdate ch phase).conditions = s.conditions ∧
    (s.controlUpdate ch phase).sense = s.sense ∧
    (s.controlUpdate ch phase).store = s.store ∧
    (s.controlUpdate ch phase).straps = s.straps := by
  refine ⟨?_, ?_, ?_, ?_, ?_, ?_, ?_, ?_, ?_, ?_⟩ <;> simp [State.controlUpdate]

@[simp] theorem State.engineArrival_frame (s : State) (code : Word16) :
    (s.engineArrival code).pending = s.pending ∧
    (s.engineArrival code).supplyLow = s.supplyLow ∧
    (s.engineArrival code).filters = s.filters ∧
    (s.engineArrival code).decoder = s.decoder ∧
    (s.engineArrival code).oil = s.oil ∧
    (s.engineArrival code).conditions = s.conditions ∧
    (s.engineArrival code).sense = s.sense ∧
    (s.engineArrival code).link = s.link ∧
    (s.engineArrival code).store = s.store ∧
    (s.engineArrival code).straps = s.straps ∧
    (s.engineArrival code).faults = s.faults := by
  refine ⟨?_, ?_, ?_, ?_, ?_, ?_, ?_, ?_, ?_, ?_, ?_⟩ <;> (simp only [State.engineArrival]; repeat' split) <;> simp

@[simp] theorem State.engineAging_frame (s : State) :
    s.engineAging.pending = s.pending ∧
    s.engineAging.supplyLow = s.supplyLow ∧
    s.engineAging.filters = s.filters ∧
    s.engineAging.decoder = s.decoder ∧
    s.engineAging.oil = s.oil ∧
    s.engineAging.conditions = s.conditions ∧
    s.engineAging.sense = s.sense ∧
    s.engineAging.link = s.link ∧
    s.engineAging.store = s.store ∧
    s.engineAging.straps = s.straps ∧
    s.engineAging.faults = s.faults := by
  refine ⟨?_, ?_, ?_, ?_, ?_, ?_, ?_, ?_, ?_, ?_, ?_⟩ <;> (simp only [State.engineAging]; repeat' split) <;> simp

@[simp] theorem State.startRelease_frame (s : State) (ch : Channel) :
    (s.startRelease ch).pending = s.pending ∧
    (s.startRelease ch).supplyLow = s.supplyLow ∧
    (s.startRelease ch).filters = s.filters ∧
    (s.startRelease ch).decoder = s.decoder ∧
    (s.startRelease ch).oil = s.oil ∧
    (s.startRelease ch).engine = s.engine ∧
    (s.startRelease ch).conditions = s.conditions ∧
    (s.startRelease ch).sense = s.sense ∧
    (s.startRelease ch).link = s.link ∧
    (s.startRelease ch).store = s.store ∧
    (s.startRelease ch).straps = s.straps ∧
    (s.startRelease ch).faults = s.faults := by
  refine ⟨?_, ?_, ?_, ?_, ?_, ?_, ?_, ?_, ?_, ?_, ?_, ?_⟩ <;> simp [State.startRelease]

@[simp] theorem State.enterTracking_frame (s : State) (ch : Channel) (phase : Int) :
    (s.enterTracking ch phase).pending = s.pending ∧
    (s.enterTracking ch phase).supplyLow = s.supplyLow ∧
    (s.enterTracking ch phase).filters = s.filters ∧
    (s.enterTracking ch phase).decoder = s.decoder ∧
    (s.enterTracking ch phase).oil = s.oil ∧
    (s.enterTracking ch phase).engine = s.engine ∧
    (s.enterTracking ch phase).conditions = s.conditions ∧
    (s.enterTracking ch phase).sense = s.sense ∧
    (s.enterTracking ch phase).link = s.link ∧
    (s.enterTracking ch phase).store = s.store ∧
    (s.enterTracking ch phase).straps = s.straps ∧
    (s.enterTracking ch phase).faults = s.faults := by
  refine ⟨?_, ?_, ?_, ?_, ?_, ?_, ?_, ?_, ?_, ?_, ?_, ?_⟩ <;> simp [State.enterTracking]

@[simp] theorem State.releaseProgress_frame (s : State) (ch : Channel) (phase : Int) :
    (s.releaseProgress ch phase).pending = s.pending ∧
    (s.releaseProgress ch phase).supplyLow = s.supplyLow ∧
    (s.releaseProgress ch phase).filters = s.filters ∧
    (s.releaseProgress ch phase).decoder = s.decoder ∧
    (s.releaseProgress ch phase).oil = s.oil ∧
    (s.releaseProgress ch phase).engine = s.engine ∧
    (s.releaseProgress ch phase).conditions = s.conditions ∧
    (s.releaseProgress ch phase).sense = s.sense ∧
    (s.releaseProgress ch phase).link = s.link ∧
    (s.releaseProgress ch phase).store = s.store ∧
    (s.releaseProgress ch phase).straps = s.straps ∧
    (s.releaseProgress ch phase).faults = s.faults := by
  refine ⟨?_, ?_, ?_, ?_, ?_, ?_, ?_, ?_, ?_, ?_, ?_, ?_⟩ <;> (simp only [State.releaseProgress]; repeat' split) <;> simp

@[simp] theorem State.releaseTick_frame (s : State) (ch : Channel) :
    (s.releaseTick ch).pending = s.pending ∧
    (s.releaseTick ch).supplyLow = s.supplyLow ∧
    (s.releaseTick ch).filters = s.filters ∧
    (s.releaseTick ch).decoder = s.decoder ∧
    (s.releaseTick ch).oil = s.oil ∧
    (s.releaseTick ch).engine = s.engine ∧
    (s.releaseTick ch).conditions = s.conditions ∧
    (s.releaseTick ch).sense = s.sense ∧
    (s.releaseTick ch).store = s.store ∧
    (s.releaseTick ch).straps = s.straps := by
  refine ⟨?_, ?_, ?_, ?_, ?_, ?_, ?_, ?_, ?_, ?_⟩ <;> (simp only [State.releaseTick]; repeat' split) <;> simp

@[simp] theorem State.retryTick_frame (s : State) (ch : Channel) :
    (s.retryTick ch).pending = s.pending ∧
    (s.retryTick ch).supplyLow = s.supplyLow ∧
    (s.retryTick ch).timers = s.timers ∧
    (s.retryTick ch).filters = s.filters ∧
    (s.retryTick ch).decoder = s.decoder ∧
    (s.retryTick ch).meters = s.meters ∧
    (s.retryTick ch).target = s.target ∧
    (s.retryTick ch).oil = s.oil ∧
    (s.retryTick ch).engine = s.engine ∧
    (s.retryTick ch).controllers = s.controllers ∧
    (s.retryTick ch).drivers = s.drivers ∧
    (s.retryTick ch).conditions = s.conditions ∧
    (s.retryTick ch).sense = s.sense ∧
    (s.retryTick ch).link = s.link ∧
    (s.retryTick ch).store = s.store ∧
    (s.retryTick ch).straps = s.straps ∧
    (s.retryTick ch).faults = s.faults := by
  refine ⟨?_, ?_, ?_, ?_, ?_, ?_, ?_, ?_, ?_, ?_, ?_, ?_, ?_, ?_, ?_, ?_, ?_⟩ <;> simp [State.retryTick]

@[simp] theorem State.returnProgress_frame (s : State) (ch : Channel) (phase : Int) :
    (s.returnProgress ch phase).pending = s.pending ∧
    (s.returnProgress ch phase).supplyLow = s.supplyLow ∧
    (s.returnProgress ch phase).filters = s.filters ∧
    (s.returnProgress ch phase).decoder = s.decoder ∧
    (s.returnProgress ch phase).oil = s.oil ∧
    (s.returnProgress ch phase).engine = s.engine ∧
    (s.returnProgress ch phase).conditions = s.conditions ∧
    (s.returnProgress ch phase).sense = s.sense ∧
    (s.returnProgress ch phase).link = s.link ∧
    (s.returnProgress ch phase).store = s.store ∧
    (s.returnProgress ch phase).straps = s.straps ∧
    (s.returnProgress ch phase).faults = s.faults := by
  refine ⟨?_, ?_, ?_, ?_, ?_, ?_, ?_, ?_, ?_, ?_, ?_, ?_⟩ <;> (simp only [State.returnProgress]; repeat' split) <;> simp

@[simp] theorem State.returnTick_frame (s : State) (ch : Channel) :
    (s.returnTick ch).pending = s.pending ∧
    (s.returnTick ch).supplyLow = s.supplyLow ∧
    (s.returnTick ch).filters = s.filters ∧
    (s.returnTick ch).decoder = s.decoder ∧
    (s.returnTick ch).oil = s.oil ∧
    (s.returnTick ch).engine = s.engine ∧
    (s.returnTick ch).conditions = s.conditions ∧
    (s.returnTick ch).sense = s.sense ∧
    (s.returnTick ch).store = s.store ∧
    (s.returnTick ch).straps = s.straps := by
  refine ⟨?_, ?_, ?_, ?_, ?_, ?_, ?_, ?_, ?_, ?_⟩ <;> (simp only [State.returnTick]; repeat' split) <;> simp

@[simp] theorem State.channelSyncLost_frame (s : State) (ch : Channel) :
    (s.channelSyncLost ch).pending = s.pending ∧
    (s.channelSyncLost ch).supplyLow = s.supplyLow ∧
    (s.channelSyncLost ch).filters = s.filters ∧
    (s.channelSyncLost ch).decoder = s.decoder ∧
    (s.channelSyncLost ch).oil = s.oil ∧
    (s.channelSyncLost ch).engine = s.engine ∧
    (s.channelSyncLost ch).conditions = s.conditions ∧
    (s.channelSyncLost ch).sense = s.sense ∧
    (s.channelSyncLost ch).link = s.link ∧
    (s.channelSyncLost ch).store = s.store ∧
    (s.channelSyncLost ch).straps = s.straps ∧
    (s.channelSyncLost ch).faults = s.faults := by
  refine ⟨?_, ?_, ?_, ?_, ?_, ?_, ?_, ?_, ?_, ?_, ?_, ?_⟩ <;> (simp only [State.channelSyncLost]; repeat' split) <;> simp

@[simp] theorem State.sequencerTick_frame (s : State) (ch : Channel) :
    (s.sequencerTick ch).pending = s.pending ∧
    (s.sequencerTick ch).supplyLow = s.supplyLow ∧
    (s.sequencerTick ch).filters = s.filters ∧
    (s.sequencerTick ch).decoder = s.decoder ∧
    (s.sequencerTick ch).oil = s.oil ∧
    (s.sequencerTick ch).engine = s.engine ∧
    (s.sequencerTick ch).conditions = s.conditions ∧
    (s.sequencerTick ch).sense = s.sense ∧
    (s.sequencerTick ch).store = s.store ∧
    (s.sequencerTick ch).straps = s.straps := by
  refine ⟨?_, ?_, ?_, ?_, ?_, ?_, ?_, ?_, ?_, ?_⟩ <;> (simp only [State.sequencerTick]; repeat' split) <;> simp

@[simp] theorem State.sequencerCycleReference_frame (s : State) :
    s.sequencerCycleReference.pending = s.pending ∧
    s.sequencerCycleReference.supplyLow = s.supplyLow ∧
    s.sequencerCycleReference.filters = s.filters ∧
    s.sequencerCycleReference.decoder = s.decoder ∧
    s.sequencerCycleReference.oil = s.oil ∧
    s.sequencerCycleReference.conditions = s.conditions ∧
    s.sequencerCycleReference.sense = s.sense ∧
    s.sequencerCycleReference.store = s.store ∧
    s.sequencerCycleReference.straps = s.straps := by
  refine ⟨?_, ?_, ?_, ?_, ?_, ?_, ?_, ?_, ?_⟩ <;> simp [State.sequencerCycleReference]

@[simp] theorem State.trackingEvent_frame (s : State) (ch : Channel) (phase : Int) :
    (s.trackingEvent ch phase).pending = s.pending ∧
    (s.trackingEvent ch phase).supplyLow = s.supplyLow ∧
    (s.trackingEvent ch phase).filters = s.filters ∧
    (s.trackingEvent ch phase).decoder = s.decoder ∧
    (s.trackingEvent ch phase).oil = s.oil ∧
    (s.trackingEvent ch phase).engine = s.engine ∧
    (s.trackingEvent ch phase).conditions = s.conditions ∧
    (s.trackingEvent ch phase).sense = s.sense ∧
    (s.trackingEvent ch phase).store = s.store ∧
    (s.trackingEvent ch phase).straps = s.straps := by
  refine ⟨?_, ?_, ?_, ?_, ?_, ?_, ?_, ?_, ?_, ?_⟩ <;> (simp only [State.trackingEvent]; repeat' split) <;> simp

@[simp] theorem State.phaseMeasured_frame (s : State) (ch : Channel) (phase : Int) :
    (s.phaseMeasured ch phase).pending = s.pending ∧
    (s.phaseMeasured ch phase).supplyLow = s.supplyLow ∧
    (s.phaseMeasured ch phase).filters = s.filters ∧
    (s.phaseMeasured ch phase).decoder = s.decoder ∧
    (s.phaseMeasured ch phase).oil = s.oil ∧
    (s.phaseMeasured ch phase).engine = s.engine ∧
    (s.phaseMeasured ch phase).conditions = s.conditions ∧
    (s.phaseMeasured ch phase).sense = s.sense ∧
    (s.phaseMeasured ch phase).store = s.store ∧
    (s.phaseMeasured ch phase).straps = s.straps := by
  refine ⟨?_, ?_, ?_, ?_, ?_, ?_, ?_, ?_, ?_, ?_⟩ <;> (simp only [State.phaseMeasured]; repeat' split) <;> simp

@[simp] theorem State.sequencerClear_frame (s : State) (ch : Channel) :
    (s.sequencerClear ch).pending = s.pending ∧
    (s.sequencerClear ch).supplyLow = s.supplyLow ∧
    (s.sequencerClear ch).filters = s.filters ∧
    (s.sequencerClear ch).decoder = s.decoder ∧
    (s.sequencerClear ch).oil = s.oil ∧
    (s.sequencerClear ch).engine = s.engine ∧
    (s.sequencerClear ch).conditions = s.conditions ∧
    (s.sequencerClear ch).sense = s.sense ∧
    (s.sequencerClear ch).link = s.link ∧
    (s.sequencerClear ch).store = s.store ∧
    (s.sequencerClear ch).straps = s.straps ∧
    (s.sequencerClear ch).faults = s.faults := by
  refine ⟨?_, ?_, ?_, ?_, ?_, ?_, ?_, ?_, ?_, ?_, ?_, ?_⟩ <;> (simp only [State.sequencerClear]; repeat' split) <;> simp

@[simp] theorem State.measureEdge_frame (s : State) (ch : Channel) (angle : Nat) :
    (s.measureEdge ch angle).pending = s.pending ∧
    (s.measureEdge ch angle).supplyLow = s.supplyLow ∧
    (s.measureEdge ch angle).filters = s.filters ∧
    (s.measureEdge ch angle).decoder = s.decoder ∧
    (s.measureEdge ch angle).oil = s.oil ∧
    (s.measureEdge ch angle).engine = s.engine ∧
    (s.measureEdge ch angle).conditions = s.conditions ∧
    (s.measureEdge ch angle).sense = s.sense ∧
    (s.measureEdge ch angle).store = s.store ∧
    (s.measureEdge ch angle).straps = s.straps := by
  refine ⟨?_, ?_, ?_, ?_, ?_, ?_, ?_, ?_, ?_, ?_⟩ <;> (simp only [State.measureEdge]; repeat' split) <;> simp

@[simp] theorem State.captureEdge_frame (s : State) (ch : Channel) (angle : Option Nat) :
    (s.captureEdge ch angle).pending = s.pending ∧
    (s.captureEdge ch angle).supplyLow = s.supplyLow ∧
    (s.captureEdge ch angle).filters = s.filters ∧
    (s.captureEdge ch angle).decoder = s.decoder ∧
    (s.captureEdge ch angle).oil = s.oil ∧
    (s.captureEdge ch angle).engine = s.engine ∧
    (s.captureEdge ch angle).conditions = s.conditions ∧
    (s.captureEdge ch angle).sense = s.sense ∧
    (s.captureEdge ch angle).store = s.store ∧
    (s.captureEdge ch angle).straps = s.straps := by
  refine ⟨?_, ?_, ?_, ?_, ?_, ?_, ?_, ?_, ?_, ?_⟩ <;> (simp only [State.captureEdge]; repeat' split) <;> simp

@[simp] theorem State.parkLearning_frame (s : State) (ch : Channel) :
    (s.parkLearning ch).pending = s.pending ∧
    (s.parkLearning ch).supplyLow = s.supplyLow ∧
    (s.parkLearning ch).filters = s.filters ∧
    (s.parkLearning ch).decoder = s.decoder ∧
    (s.parkLearning ch).oil = s.oil ∧
    (s.parkLearning ch).engine = s.engine ∧
    (s.parkLearning ch).conditions = s.conditions ∧
    (s.parkLearning ch).sense = s.sense ∧
    (s.parkLearning ch).store = s.store ∧
    (s.parkLearning ch).straps = s.straps := by
  refine ⟨?_, ?_, ?_, ?_, ?_, ?_, ?_, ?_, ?_, ?_⟩ <;> (simp only [State.parkLearning]; repeat' split) <;> simp

@[simp] theorem State.watchPark_frame (s : State) (ch : Channel) :
    (s.watchPark ch).pending = s.pending ∧
    (s.watchPark ch).supplyLow = s.supplyLow ∧
    (s.watchPark ch).timers = s.timers ∧
    (s.watchPark ch).filters = s.filters ∧
    (s.watchPark ch).decoder = s.decoder ∧
    (s.watchPark ch).target = s.target ∧
    (s.watchPark ch).oil = s.oil ∧
    (s.watchPark ch).engine = s.engine ∧
    (s.watchPark ch).sequencers = s.sequencers ∧
    (s.watchPark ch).controllers = s.controllers ∧
    (s.watchPark ch).drivers = s.drivers ∧
    (s.watchPark ch).conditions = s.conditions ∧
    (s.watchPark ch).sense = s.sense ∧
    (s.watchPark ch).link = s.link ∧
    (s.watchPark ch).store = s.store ∧
    (s.watchPark ch).straps = s.straps ∧
    (s.watchPark ch).faults = s.faults := by
  refine ⟨?_, ?_, ?_, ?_, ?_, ?_, ?_, ?_, ?_, ?_, ?_, ?_, ?_, ?_, ?_, ?_, ?_⟩ <;> simp [State.watchPark]

@[simp] theorem State.noiseTest_frame (s : State) (ch : Channel) :
    (s.noiseTest ch).pending = s.pending ∧
    (s.noiseTest ch).supplyLow = s.supplyLow ∧
    (s.noiseTest ch).filters = s.filters ∧
    (s.noiseTest ch).decoder = s.decoder ∧
    (s.noiseTest ch).oil = s.oil ∧
    (s.noiseTest ch).engine = s.engine ∧
    (s.noiseTest ch).conditions = s.conditions ∧
    (s.noiseTest ch).sense = s.sense ∧
    (s.noiseTest ch).store = s.store ∧
    (s.noiseTest ch).straps = s.straps := by
  refine ⟨?_, ?_, ?_, ?_, ?_, ?_, ?_, ?_, ?_, ?_⟩ <;> (simp only [State.noiseTest]; repeat' split) <;> simp

@[simp] theorem State.meterCycleReference_frame (s : State) (ch : Channel) :
    (s.meterCycleReference ch).pending = s.pending ∧
    (s.meterCycleReference ch).supplyLow = s.supplyLow ∧
    (s.meterCycleReference ch).filters = s.filters ∧
    (s.meterCycleReference ch).decoder = s.decoder ∧
    (s.meterCycleReference ch).oil = s.oil ∧
    (s.meterCycleReference ch).engine = s.engine ∧
    (s.meterCycleReference ch).conditions = s.conditions ∧
    (s.meterCycleReference ch).sense = s.sense ∧
    (s.meterCycleReference ch).store = s.store ∧
    (s.meterCycleReference ch).straps = s.straps := by
  refine ⟨?_, ?_, ?_, ?_, ?_, ?_, ?_, ?_, ?_, ?_⟩ <;> simp [State.meterCycleReference]

@[simp] theorem State.revolutionTest_frame (s : State) (ch : Channel) :
    (s.revolutionTest ch).pending = s.pending ∧
    (s.revolutionTest ch).supplyLow = s.supplyLow ∧
    (s.revolutionTest ch).filters = s.filters ∧
    (s.revolutionTest ch).decoder = s.decoder ∧
    (s.revolutionTest ch).oil = s.oil ∧
    (s.revolutionTest ch).engine = s.engine ∧
    (s.revolutionTest ch).conditions = s.conditions ∧
    (s.revolutionTest ch).sense = s.sense ∧
    (s.revolutionTest ch).store = s.store ∧
    (s.revolutionTest ch).straps = s.straps := by
  refine ⟨?_, ?_, ?_, ?_, ?_, ?_, ?_, ?_, ?_, ?_⟩ <;> (simp only [State.revolutionTest]; repeat' split) <;> simp

@[simp] theorem State.resistanceTrim_frame (s : State) (ch : Channel) :
    (s.resistanceTrim ch).pending = s.pending ∧
    (s.resistanceTrim ch).supplyLow = s.supplyLow ∧
    (s.resistanceTrim ch).timers = s.timers ∧
    (s.resistanceTrim ch).filters = s.filters ∧
    (s.resistanceTrim ch).decoder = s.decoder ∧
    (s.resistanceTrim ch).meters = s.meters ∧
    (s.resistanceTrim ch).target = s.target ∧
    (s.resistanceTrim ch).oil = s.oil ∧
    (s.resistanceTrim ch).engine = s.engine ∧
    (s.resistanceTrim ch).sequencers = s.sequencers ∧
    (s.resistanceTrim ch).controllers = s.controllers ∧
    (s.resistanceTrim ch).conditions = s.conditions ∧
    (s.resistanceTrim ch).sense = s.sense ∧
    (s.resistanceTrim ch).link = s.link ∧
    (s.resistanceTrim ch).store = s.store ∧
    (s.resistanceTrim ch).straps = s.straps ∧
    (s.resistanceTrim ch).faults = s.faults := by
  refine ⟨?_, ?_, ?_, ?_, ?_, ?_, ?_, ?_, ?_, ?_, ?_, ?_, ?_, ?_, ?_, ?_, ?_⟩ <;> (simp only [State.resistanceTrim]; repeat' split) <;> simp

@[simp] theorem State.takeCycleReference_frame (s : State) (b : CycleBlock) :
    (s.takeCycleReference b).pending = s.pending ∧
    (s.takeCycleReference b).supplyLow = s.supplyLow ∧
    (s.takeCycleReference b).filters = s.filters ∧
    (s.takeCycleReference b).decoder = s.decoder ∧
    (s.takeCycleReference b).conditions = s.conditions ∧
    (s.takeCycleReference b).sense = s.sense ∧
    (s.takeCycleReference b).store = s.store ∧
    (s.takeCycleReference b).straps = s.straps := by
  refine ⟨?_, ?_, ?_, ?_, ?_, ?_, ?_, ?_⟩ <;> (simp only [State.takeCycleReference]; repeat' split) <;> simp

@[simp] theorem State.cycleReference_frame (s : State) (order : List CycleBlock) :
    (s.cycleReference order).pending = s.pending ∧
    (s.cycleReference order).supplyLow = s.supplyLow ∧
    (s.cycleReference order).filters = s.filters ∧
    (s.cycleReference order).decoder = s.decoder ∧
    (s.cycleReference order).conditions = s.conditions ∧
    (s.cycleReference order).sense = s.sense ∧
    (s.cycleReference order).store = s.store ∧
    (s.cycleReference order).straps = s.straps := by
  unfold State.cycleReference
  generalize blockOrder order = l
  induction l generalizing s with
  | nil => simp
  | cons b bs ih => simpa using ih (s.takeCycleReference b)

@[simp] theorem State.startStatusTimer_frame (s : State) :
    s.startStatusTimer.pending = s.pending ∧
    s.startStatusTimer.supplyLow = s.supplyLow ∧
    s.startStatusTimer.filters = s.filters ∧
    s.startStatusTimer.decoder = s.decoder ∧
    s.startStatusTimer.meters = s.meters ∧
    s.startStatusTimer.target = s.target ∧
    s.startStatusTimer.oil = s.oil ∧
    s.startStatusTimer.engine = s.engine ∧
    s.startStatusTimer.sequencers = s.sequencers ∧
    s.startStatusTimer.controllers = s.controllers ∧
    s.startStatusTimer.drivers = s.drivers ∧
    s.startStatusTimer.conditions = s.conditions ∧
    s.startStatusTimer.sense = s.sense ∧
    s.startStatusTimer.link = s.link ∧
    s.startStatusTimer.store = s.store ∧
    s.startStatusTimer.straps = s.straps ∧
    s.startStatusTimer.faults = s.faults := by
  refine ⟨?_, ?_, ?_, ?_, ?_, ?_, ?_, ?_, ?_, ?_, ?_, ?_, ?_, ?_, ?_, ?_, ?_⟩ <;> simp [State.startStatusTimer]

@[simp] theorem State.publishSyncLost_frame (s : State) :
    s.publishSyncLost.pending = s.pending ∧
    s.publishSyncLost.supplyLow = s.supplyLow ∧
    s.publishSyncLost.filters = s.filters ∧
    s.publishSyncLost.decoder = s.decoder ∧
    s.publishSyncLost.engine = s.engine ∧
    s.publishSyncLost.conditions = s.conditions ∧
    s.publishSyncLost.sense = s.sense ∧
    s.publishSyncLost.link = s.link ∧
    s.publishSyncLost.store = s.store ∧
    s.publishSyncLost.straps = s.straps ∧
    s.publishSyncLost.faults = s.faults := by
  refine ⟨?_, ?_, ?_, ?_, ?_, ?_, ?_, ?_, ?_, ?_, ?_⟩ <;> simp [State.publishSyncLost]

@[simp] theorem State.publishRevSync_frame (s : State) :
    s.publishRevSync.pending = s.pending ∧
    s.publishRevSync.supplyLow = s.supplyLow ∧
    s.publishRevSync.timers = s.timers ∧
    s.publishRevSync.filters = s.filters ∧
    s.publishRevSync.decoder = s.decoder ∧
    s.publishRevSync.target = s.target ∧
    s.publishRevSync.oil = s.oil ∧
    s.publishRevSync.engine = s.engine ∧
    s.publishRevSync.sequencers = s.sequencers ∧
    s.publishRevSync.controllers = s.controllers ∧
    s.publishRevSync.drivers = s.drivers ∧
    s.publishRevSync.conditions = s.conditions ∧
    s.publishRevSync.sense = s.sense ∧
    s.publishRevSync.link = s.link ∧
    s.publishRevSync.straps = s.straps ∧
    s.publishRevSync.faults = s.faults := by
  refine ⟨?_, ?_, ?_, ?_, ?_, ?_, ?_, ?_, ?_, ?_, ?_, ?_, ?_, ?_, ?_, ?_⟩ <;> simp [State.publishRevSync]

@[simp] theorem State.publishCycleSync_frame (s : State) :
    s.publishCycleSync.pending = s.pending ∧
    s.publishCycleSync.supplyLow = s.supplyLow ∧
    s.publishCycleSync.filters = s.filters ∧
    s.publishCycleSync.decoder = s.decoder ∧
    s.publishCycleSync.meters = s.meters ∧
    s.publishCycleSync.sequencers = s.sequencers ∧
    s.publishCycleSync.controllers = s.controllers ∧
    s.publishCycleSync.drivers = s.drivers ∧
    s.publishCycleSync.conditions = s.conditions ∧
    s.publishCycleSync.sense = s.sense ∧
    s.publishCycleSync.link = s.link ∧
    s.publishCycleSync.store = s.store ∧
    s.publishCycleSync.straps = s.straps ∧
    s.publishCycleSync.faults = s.faults := by
  refine ⟨?_, ?_, ?_, ?_, ?_, ?_, ?_, ?_, ?_, ?_, ?_, ?_, ?_, ?_⟩ <;> simp [State.publishCycleSync]

@[simp] theorem State.publishRevolution_frame (s : State) :
    s.publishRevolution.pending = s.pending ∧
    s.publishRevolution.supplyLow = s.supplyLow ∧
    s.publishRevolution.filters = s.filters ∧
    s.publishRevolution.decoder = s.decoder ∧
    s.publishRevolution.oil = s.oil ∧
    s.publishRevolution.engine = s.engine ∧
    s.publishRevolution.conditions = s.conditions ∧
    s.publishRevolution.sense = s.sense ∧
    s.publishRevolution.store = s.store ∧
    s.publishRevolution.straps = s.straps := by
  refine ⟨?_, ?_, ?_, ?_, ?_, ?_, ?_, ?_, ?_, ?_⟩ <;> simp [State.publishRevolution]

@[simp] theorem State.countLoss_frame (s : State) :
    s.countLoss.pending = s.pending ∧
    s.countLoss.supplyLow = s.supplyLow ∧
    s.countLoss.filters = s.filters ∧
    s.countLoss.engine = s.engine ∧
    s.countLoss.conditions = s.conditions ∧
    s.countLoss.sense = s.sense ∧
    s.countLoss.store = s.store ∧
    s.countLoss.straps = s.straps := by
  refine ⟨?_, ?_, ?_, ?_, ?_, ?_, ?_, ?_⟩ <;> (simp only [State.countLoss]; repeat' split) <;> simp

@[simp] theorem State.toothError_frame (s : State) (t : Tick) :
    (s.toothError t).pending = s.pending ∧
    (s.toothError t).supplyLow = s.supplyLow ∧
    (s.toothError t).filters = s.filters ∧
    (s.toothError t).engine = s.engine ∧
    (s.toothError t).conditions = s.conditions ∧
    (s.toothError t).sense = s.sense ∧
    (s.toothError t).store = s.store ∧
    (s.toothError t).straps = s.straps := by
  refine ⟨?_, ?_, ?_, ?_, ?_, ?_, ?_, ?_⟩ <;> simp [State.toothError]

@[simp] theorem State.gainRevSync_frame (s : State) (t : Tick) :
    (s.gainRevSync t).pending = s.pending ∧
    (s.gainRevSync t).supplyLow = s.supplyLow ∧
    (s.gainRevSync t).timers = s.timers ∧
    (s.gainRevSync t).filters = s.filters ∧
    (s.gainRevSync t).target = s.target ∧
    (s.gainRevSync t).oil = s.oil ∧
    (s.gainRevSync t).engine = s.engine ∧
    (s.gainRevSync t).sequencers = s.sequencers ∧
    (s.gainRevSync t).controllers = s.controllers ∧
    (s.gainRevSync t).drivers = s.drivers ∧
    (s.gainRevSync t).conditions = s.conditions ∧
    (s.gainRevSync t).sense = s.sense ∧
    (s.gainRevSync t).link = s.link ∧
    (s.gainRevSync t).straps = s.straps ∧
    (s.gainRevSync t).faults = s.faults := by
  refine ⟨?_, ?_, ?_, ?_, ?_, ?_, ?_, ?_, ?_, ?_, ?_, ?_, ?_, ?_, ?_⟩ <;> simp [State.gainRevSync]

@[simp] theorem State.closeRevolution_frame (s : State) (t : Tick) (order : List CycleBlock) :
    (s.closeRevolution t order).pending = s.pending ∧
    (s.closeRevolution t order).supplyLow = s.supplyLow ∧
    (s.closeRevolution t order).filters = s.filters ∧
    (s.closeRevolution t order).conditions = s.conditions ∧
    (s.closeRevolution t order).sense = s.sense ∧
    (s.closeRevolution t order).store = s.store ∧
    (s.closeRevolution t order).straps = s.straps := by
  refine ⟨?_, ?_, ?_, ?_, ?_, ?_, ?_⟩ <;> (simp only [State.closeRevolution]; repeat' split) <;> simp

@[simp] theorem State.syncedEdge_frame (s : State) (t : Tick) (order : List CycleBlock) :
    (s.syncedEdge t order).pending = s.pending ∧
    (s.syncedEdge t order).supplyLow = s.supplyLow ∧
    (s.syncedEdge t order).filters = s.filters ∧
    (s.syncedEdge t order).conditions = s.conditions ∧
    (s.syncedEdge t order).sense = s.sense ∧
    (s.syncedEdge t order).store = s.store ∧
    (s.syncedEdge t order).straps = s.straps := by
  refine ⟨?_, ?_, ?_, ?_, ?_, ?_, ?_⟩ <;> (simp only [State.syncedEdge]; repeat' split) <;> simp

@[simp] theorem State.seekEdge_frame (s : State) (t : Tick) :
    (s.seekEdge t).pending = s.pending ∧
    (s.seekEdge t).supplyLow = s.supplyLow ∧
    (s.seekEdge t).timers = s.timers ∧
    (s.seekEdge t).filters = s.filters ∧
    (s.seekEdge t).target = s.target ∧
    (s.seekEdge t).oil = s.oil ∧
    (s.seekEdge t).engine = s.engine ∧
    (s.seekEdge t).sequencers = s.sequencers ∧
    (s.seekEdge t).controllers = s.controllers ∧
    (s.seekEdge t).drivers = s.drivers ∧
    (s.seekEdge t).conditions = s.conditions ∧
    (s.seekEdge t).sense = s.sense ∧
    (s.seekEdge t).link = s.link ∧
    (s.seekEdge t).straps = s.straps ∧
    (s.seekEdge t).faults = s.faults := by
  refine ⟨?_, ?_, ?_, ?_, ?_, ?_, ?_, ?_, ?_, ?_, ?_, ?_, ?_, ?_, ?_⟩ <;> (simp only [State.seekEdge]; repeat' split) <;> simp

@[simp] theorem State.crankEdge_frame (s : State) (t : Tick) (order : List CycleBlock) :
    (s.crankEdge t order).pending = s.pending ∧
    (s.crankEdge t order).supplyLow = s.supplyLow ∧
    (s.crankEdge t order).filters = s.filters ∧
    (s.crankEdge t order).conditions = s.conditions ∧
    (s.crankEdge t order).sense = s.sense ∧
    (s.crankEdge t order).straps = s.straps := by
  refine ⟨?_, ?_, ?_, ?_, ?_, ?_⟩ <;> (simp only [State.crankEdge]; repeat' split) <;> simp

@[simp] theorem State.stall_frame (s : State) :
    s.stall.pending = s.pending ∧
    s.stall.supplyLow = s.supplyLow ∧
    s.stall.filters = s.filters ∧
    s.stall.engine = s.engine ∧
    s.stall.conditions = s.conditions ∧
    s.stall.sense = s.sense ∧
    s.stall.link = s.link ∧
    s.stall.store = s.store ∧
    s.stall.straps = s.straps ∧
    s.stall.faults = s.faults := by
  refine ⟨?_, ?_, ?_, ?_, ?_, ?_, ?_, ?_, ?_, ?_⟩ <;> (simp only [State.stall]; repeat' split) <;> simp

@[simp] theorem State.camEdge_frame (s : State) (ch : Channel) (t : Tick) :
    (s.camEdge ch t).pending = s.pending ∧
    (s.camEdge ch t).supplyLow = s.supplyLow ∧
    (s.camEdge ch t).filters = s.filters ∧
    (s.camEdge ch t).conditions = s.conditions ∧
    (s.camEdge ch t).sense = s.sense ∧
    (s.camEdge ch t).store = s.store ∧
    (s.camEdge ch t).straps = s.straps := by
  refine ⟨?_, ?_, ?_, ?_, ?_, ?_, ?_⟩ <;> (simp only [State.camEdge]; repeat' split) <;> simp

@[simp] theorem State.openCandidate_frame (s : State) (pin : AnglePin) (t : Tick) :
    (s.openCandidate pin t).pending = s.pending ∧
    (s.openCandidate pin t).supplyLow = s.supplyLow ∧
    (s.openCandidate pin t).timers = s.timers ∧
    (s.openCandidate pin t).decoder = s.decoder ∧
    (s.openCandidate pin t).meters = s.meters ∧
    (s.openCandidate pin t).target = s.target ∧
    (s.openCandidate pin t).oil = s.oil ∧
    (s.openCandidate pin t).engine = s.engine ∧
    (s.openCandidate pin t).sequencers = s.sequencers ∧
    (s.openCandidate pin t).controllers = s.controllers ∧
    (s.openCandidate pin t).drivers = s.drivers ∧
    (s.openCandidate pin t).conditions = s.conditions ∧
    (s.openCandidate pin t).sense = s.sense ∧
    (s.openCandidate pin t).link = s.link ∧
    (s.openCandidate pin t).store = s.store ∧
    (s.openCandidate pin t).straps = s.straps ∧
    (s.openCandidate pin t).faults = s.faults := by
  refine ⟨?_, ?_, ?_, ?_, ?_, ?_, ?_, ?_, ?_, ?_, ?_, ?_, ?_, ?_, ?_, ?_, ?_⟩ <;> simp [State.openCandidate]

@[simp] theorem State.closeCandidate_frame (s : State) (pin : AnglePin) :
    (s.closeCandidate pin).pending = s.pending ∧
    (s.closeCandidate pin).supplyLow = s.supplyLow ∧
    (s.closeCandidate pin).timers = s.timers ∧
    (s.closeCandidate pin).decoder = s.decoder ∧
    (s.closeCandidate pin).meters = s.meters ∧
    (s.closeCandidate pin).target = s.target ∧
    (s.closeCandidate pin).oil = s.oil ∧
    (s.closeCandidate pin).engine = s.engine ∧
    (s.closeCandidate pin).sequencers = s.sequencers ∧
    (s.closeCandidate pin).controllers = s.controllers ∧
    (s.closeCandidate pin).drivers = s.drivers ∧
    (s.closeCandidate pin).conditions = s.conditions ∧
    (s.closeCandidate pin).sense = s.sense ∧
    (s.closeCandidate pin).link = s.link ∧
    (s.closeCandidate pin).store = s.store ∧
    (s.closeCandidate pin).straps = s.straps ∧
    (s.closeCandidate pin).faults = s.faults := by
  refine ⟨?_, ?_, ?_, ?_, ?_, ?_, ?_, ?_, ?_, ?_, ?_, ?_, ?_, ?_, ?_, ?_, ?_⟩ <;> simp [State.closeCandidate]

@[simp] theorem State.recognise_frame (s : State) (pin : AnglePin) :
    (s.recognise pin).pending = s.pending ∧
    (s.recognise pin).supplyLow = s.supplyLow ∧
    (s.recognise pin).timers = s.timers ∧
    (s.recognise pin).decoder = s.decoder ∧
    (s.recognise pin).meters = s.meters ∧
    (s.recognise pin).target = s.target ∧
    (s.recognise pin).oil = s.oil ∧
    (s.recognise pin).engine = s.engine ∧
    (s.recognise pin).sequencers = s.sequencers ∧
    (s.recognise pin).controllers = s.controllers ∧
    (s.recognise pin).drivers = s.drivers ∧
    (s.recognise pin).conditions = s.conditions ∧
    (s.recognise pin).sense = s.sense ∧
    (s.recognise pin).link = s.link ∧
    (s.recognise pin).store = s.store ∧
    (s.recognise pin).straps = s.straps ∧
    (s.recognise pin).faults = s.faults := by
  refine ⟨?_, ?_, ?_, ?_, ?_, ?_, ?_, ?_, ?_, ?_, ?_, ?_, ?_, ?_, ?_, ?_, ?_⟩ <;> simp [State.recognise]

@[simp] theorem State.deliverEdge_frame (s : State) (pin : AnglePin) (t : Tick) (order : List CycleBlock) :
    (s.deliverEdge pin t order).pending = s.pending ∧
    (s.deliverEdge pin t order).supplyLow = s.supplyLow ∧
    (s.deliverEdge pin t order).filters = s.filters ∧
    (s.deliverEdge pin t order).conditions = s.conditions ∧
    (s.deliverEdge pin t order).sense = s.sense ∧
    (s.deliverEdge pin t order).straps = s.straps := by
  refine ⟨?_, ?_, ?_, ?_, ?_, ?_⟩ <;> (simp only [State.deliverEdge]; repeat' split) <;> simp

@[simp] theorem State.elapse_frame (s : State) (n : Nat) :
    (s.elapse n).pending = s.pending ∧
    (s.elapse n).supplyLow = s.supplyLow ∧
    (s.elapse n).filters = s.filters ∧
    (s.elapse n).decoder = s.decoder ∧
    (s.elapse n).meters = s.meters ∧
    (s.elapse n).target = s.target ∧
    (s.elapse n).oil = s.oil ∧
    (s.elapse n).engine = s.engine ∧
    (s.elapse n).sequencers = s.sequencers ∧
    (s.elapse n).controllers = s.controllers ∧
    (s.elapse n).drivers = s.drivers ∧
    (s.elapse n).conditions = s.conditions ∧
    (s.elapse n).sense = s.sense ∧
    (s.elapse n).store = s.store ∧
    (s.elapse n).straps = s.straps ∧
    (s.elapse n).faults = s.faults := by
  refine ⟨?_, ?_, ?_, ?_, ?_, ?_, ?_, ?_, ?_, ?_, ?_, ?_, ?_, ?_, ?_, ?_⟩ <;> (simp only [State.elapse]; repeat' split) <;> simp

@[simp] theorem State.elapseTo_frame (s : State) (t : Tick) :
    (s.elapseTo t).pending = s.pending ∧
    (s.elapseTo t).supplyLow = s.supplyLow ∧
    (s.elapseTo t).filters = s.filters ∧
    (s.elapseTo t).decoder = s.decoder ∧
    (s.elapseTo t).meters = s.meters ∧
    (s.elapseTo t).target = s.target ∧
    (s.elapseTo t).oil = s.oil ∧
    (s.elapseTo t).engine = s.engine ∧
    (s.elapseTo t).sequencers = s.sequencers ∧
    (s.elapseTo t).controllers = s.controllers ∧
    (s.elapseTo t).drivers = s.drivers ∧
    (s.elapseTo t).conditions = s.conditions ∧
    (s.elapseTo t).sense = s.sense ∧
    (s.elapseTo t).store = s.store ∧
    (s.elapseTo t).straps = s.straps ∧
    (s.elapseTo t).faults = s.faults := by
  refine ⟨?_, ?_, ?_, ?_, ?_, ?_, ?_, ?_, ?_, ?_, ?_, ?_, ?_, ?_, ?_, ?_⟩ <;> simp [State.elapseTo]

@[simp] theorem State.atBitRead_frame (s : State) (f : Link → Link) :
    (s.atBitRead f).pending = s.pending ∧
    (s.atBitRead f).supplyLow = s.supplyLow ∧
    (s.atBitRead f).filters = s.filters ∧
    (s.atBitRead f).decoder = s.decoder ∧
    (s.atBitRead f).meters = s.meters ∧
    (s.atBitRead f).target = s.target ∧
    (s.atBitRead f).oil = s.oil ∧
    (s.atBitRead f).engine = s.engine ∧
    (s.atBitRead f).sequencers = s.sequencers ∧
    (s.atBitRead f).controllers = s.controllers ∧
    (s.atBitRead f).drivers = s.drivers ∧
    (s.atBitRead f).conditions = s.conditions ∧
    (s.atBitRead f).sense = s.sense ∧
    (s.atBitRead f).store = s.store ∧
    (s.atBitRead f).straps = s.straps ∧
    (s.atBitRead f).faults = s.faults := by
  refine ⟨?_, ?_, ?_, ?_, ?_, ?_, ?_, ?_, ?_, ?_, ?_, ?_, ?_, ?_, ?_, ?_⟩ <;> simp [State.atBitRead]

@[simp] theorem State.passDominant_frame (s : State) (k : Nat) :
    (s.passDominant k).pending = s.pending ∧
    (s.passDominant k).supplyLow = s.supplyLow ∧
    (s.passDominant k).filters = s.filters ∧
    (s.passDominant k).decoder = s.decoder ∧
    (s.passDominant k).meters = s.meters ∧
    (s.passDominant k).target = s.target ∧
    (s.passDominant k).oil = s.oil ∧
    (s.passDominant k).engine = s.engine ∧
    (s.passDominant k).sequencers = s.sequencers ∧
    (s.passDominant k).controllers = s.controllers ∧
    (s.passDominant k).drivers = s.drivers ∧
    (s.passDominant k).conditions = s.conditions ∧
    (s.passDominant k).sense = s.sense ∧
    (s.passDominant k).link = s.link ∧
    (s.passDominant k).store = s.store ∧
    (s.passDominant k).straps = s.straps ∧
    (s.passDominant k).faults = s.faults := by
  refine ⟨?_, ?_, ?_, ?_, ?_, ?_, ?_, ?_, ?_, ?_, ?_, ?_, ?_, ?_, ?_, ?_, ?_⟩ <;> simp [State.passDominant]

@[simp] theorem State.completeSlot_frame (s : State) :
    s.completeSlot.pending = s.pending ∧
    s.completeSlot.supplyLow = s.supplyLow ∧
    s.completeSlot.filters = s.filters ∧
    s.completeSlot.decoder = s.decoder ∧
    s.completeSlot.meters = s.meters ∧
    s.completeSlot.target = s.target ∧
    s.completeSlot.oil = s.oil ∧
    s.completeSlot.engine = s.engine ∧
    s.completeSlot.sequencers = s.sequencers ∧
    s.completeSlot.controllers = s.controllers ∧
    s.completeSlot.drivers = s.drivers ∧
    s.completeSlot.conditions = s.conditions ∧
    s.completeSlot.sense = s.sense ∧
    s.completeSlot.store = s.store ∧
    s.completeSlot.straps = s.straps ∧
    s.completeSlot.faults = s.faults := by
  refine ⟨?_, ?_, ?_, ?_, ?_, ?_, ?_, ?_, ?_, ?_, ?_, ?_, ?_, ?_, ?_, ?_⟩ <;> simp [State.completeSlot]

@[simp] theorem State.openCoilTest_frame (s : State) (ch : Channel) (sample : Nat) :
    (s.openCoilTest ch sample).pending = s.pending ∧
    (s.openCoilTest ch sample).supplyLow = s.supplyLow ∧
    (s.openCoilTest ch sample).filters = s.filters ∧
    (s.openCoilTest ch sample).decoder = s.decoder ∧
    (s.openCoilTest ch sample).oil = s.oil ∧
    (s.openCoilTest ch sample).engine = s.engine ∧
    (s.openCoilTest ch sample).conditions = s.conditions ∧
    (s.openCoilTest ch sample).sense = s.sense ∧
    (s.openCoilTest ch sample).store = s.store ∧
    (s.openCoilTest ch sample).straps = s.straps := by
  refine ⟨?_, ?_, ?_, ?_, ?_, ?_, ?_, ?_, ?_, ?_⟩ <;> (simp only [State.openCoilTest]; repeat' split) <;> simp

@[simp] theorem State.computeDuties_frame (s : State) :
    s.computeDuties.pending = s.pending ∧
    s.computeDuties.supplyLow = s.supplyLow ∧
    s.computeDuties.timers = s.timers ∧
    s.computeDuties.filters = s.filters ∧
    s.computeDuties.decoder = s.decoder ∧
    s.computeDuties.meters = s.meters ∧
    s.computeDuties.target = s.target ∧
    s.computeDuties.oil = s.oil ∧
    s.computeDuties.engine = s.engine ∧
    s.computeDuties.sequencers = s.sequencers ∧
    s.computeDuties.controllers = s.controllers ∧
    s.computeDuties.conditions = s.conditions ∧
    s.computeDuties.sense = s.sense ∧
    s.computeDuties.link = s.link ∧
    s.computeDuties.store = s.store ∧
    s.computeDuties.straps = s.straps ∧
    s.computeDuties.faults = s.faults := by
  refine ⟨?_, ?_, ?_, ?_, ?_, ?_, ?_, ?_, ?_, ?_, ?_, ?_, ?_, ?_, ?_, ?_, ?_⟩ <;> simp [State.computeDuties]

@[simp] theorem State.evaluateSupply_frame (s : State) (supply : Int) :
    (s.evaluateSupply supply).pending = s.pending ∧
    (s.evaluateSupply supply).supplyLow = s.supplyLow ∧
    (s.evaluateSupply supply).filters = s.filters ∧
    (s.evaluateSupply supply).decoder = s.decoder ∧
    (s.evaluateSupply supply).oil = s.oil ∧
    (s.evaluateSupply supply).engine = s.engine ∧
    (s.evaluateSupply supply).sense = s.sense ∧
    (s.evaluateSupply supply).link = s.link ∧
    (s.evaluateSupply supply).store = s.store ∧
    (s.evaluateSupply supply).straps = s.straps ∧
    (s.evaluateSupply supply).faults = s.faults := by
  refine ⟨?_, ?_, ?_, ?_, ?_, ?_, ?_, ?_, ?_, ?_, ?_⟩ <;> (simp only [State.evaluateSupply]; repeat' split) <;> simp

@[simp] theorem State.limitCommand_frame (s : State) (ch : Channel) :
    (s.limitCommand ch).pending = s.pending ∧
    (s.limitCommand ch).supplyLow = s.supplyLow ∧
    (s.limitCommand ch).filters = s.filters ∧
    (s.limitCommand ch).decoder = s.decoder ∧
    (s.limitCommand ch).meters = s.meters ∧
    (s.limitCommand ch).target = s.target ∧
    (s.limitCommand ch).oil = s.oil ∧
    (s.limitCommand ch).engine = s.engine ∧
    (s.limitCommand ch).sequencers = s.sequencers ∧
    (s.limitCommand ch).conditions = s.conditions ∧
    (s.limitCommand ch).sense = s.sense ∧
    (s.limitCommand ch).link = s.link ∧
    (s.limitCommand ch).store = s.store ∧
    (s.limitCommand ch).straps = s.straps ∧
    (s.limitCommand ch).faults = s.faults := by
  refine ⟨?_, ?_, ?_, ?_, ?_, ?_, ?_, ?_, ?_, ?_, ?_, ?_, ?_, ?_, ?_⟩ <;> (simp only [State.limitCommand]; repeat' split) <;> simp

@[simp] theorem State.evaluateDerate_frame (s : State) (t : Int) :
    (s.evaluateDerate t).pending = s.pending ∧
    (s.evaluateDerate t).supplyLow = s.supplyLow ∧
    (s.evaluateDerate t).filters = s.filters ∧
    (s.evaluateDerate t).decoder = s.decoder ∧
    (s.evaluateDerate t).meters = s.meters ∧
    (s.evaluateDerate t).target = s.target ∧
    (s.evaluateDerate t).oil = s.oil ∧
    (s.evaluateDerate t).engine = s.engine ∧
    (s.evaluateDerate t).sequencers = s.sequencers ∧
    (s.evaluateDerate t).sense = s.sense ∧
    (s.evaluateDerate t).link = s.link ∧
    (s.evaluateDerate t).store = s.store ∧
    (s.evaluateDerate t).straps = s.straps ∧
    (s.evaluateDerate t).faults = s.faults := by
  refine ⟨?_, ?_, ?_, ?_, ?_, ?_, ?_, ?_, ?_, ?_, ?_, ?_, ?_, ?_⟩ <;> (simp only [State.evaluateDerate]; repeat' split) <;> simp

@[simp] theorem State.evaluateThermalCut_frame (s : State) (t : Int) :
    (s.evaluateThermalCut t).pending = s.pending ∧
    (s.evaluateThermalCut t).supplyLow = s.supplyLow ∧
    (s.evaluateThermalCut t).filters = s.filters ∧
    (s.evaluateThermalCut t).decoder = s.decoder ∧
    (s.evaluateThermalCut t).oil = s.oil ∧
    (s.evaluateThermalCut t).engine = s.engine ∧
    (s.evaluateThermalCut t).sense = s.sense ∧
    (s.evaluateThermalCut t).link = s.link ∧
    (s.evaluateThermalCut t).store = s.store ∧
    (s.evaluateThermalCut t).straps = s.straps ∧
    (s.evaluateThermalCut t).faults = s.faults := by
  refine ⟨?_, ?_, ?_, ?_, ?_, ?_, ?_, ?_, ?_, ?_, ?_⟩ <;> (simp only [State.evaluateThermalCut]; repeat' split) <;> simp

@[simp] theorem State.rangeCheck_frame (s : State) (code : Code12) :
    (s.rangeCheck code).pending = s.pending ∧
    (s.rangeCheck code).supplyLow = s.supplyLow ∧
    (s.rangeCheck code).filters = s.filters ∧
    (s.rangeCheck code).decoder = s.decoder ∧
    (s.rangeCheck code).engine = s.engine ∧
    (s.rangeCheck code).conditions = s.conditions ∧
    (s.rangeCheck code).store = s.store ∧
    (s.rangeCheck code).straps = s.straps := by
  refine ⟨?_, ?_, ?_, ?_, ?_, ?_, ?_, ?_⟩ <;> (simp only [State.rangeCheck]; repeat' split) <;> simp

@[simp] theorem State.reseed_frame (s : State) (id v : Nat) :
    (s.reseed id v).pending = s.pending ∧
    (s.reseed id v).supplyLow = s.supplyLow ∧
    (s.reseed id v).timers = s.timers ∧
    (s.reseed id v).filters = s.filters ∧
    (s.reseed id v).decoder = s.decoder ∧
    (s.reseed id v).meters = s.meters ∧
    (s.reseed id v).target = s.target ∧
    (s.reseed id v).oil = s.oil ∧
    (s.reseed id v).engine = s.engine ∧
    (s.reseed id v).sequencers = s.sequencers ∧
    (s.reseed id v).conditions = s.conditions ∧
    (s.reseed id v).sense = s.sense ∧
    (s.reseed id v).link = s.link ∧
    (s.reseed id v).store = s.store ∧
    (s.reseed id v).straps = s.straps ∧
    (s.reseed id v).faults = s.faults := by
  refine ⟨?_, ?_, ?_, ?_, ?_, ?_, ?_, ?_, ?_, ?_, ?_, ?_, ?_, ?_, ?_, ?_⟩ <;> (simp only [State.reseed]; repeat' split) <;> simp

@[simp] theorem State.takeConfig_frame (s : State) (addressed : Bool) (id value : Word16) :
    (s.takeConfig addressed id value).pending = s.pending ∧
    (s.takeConfig addressed id value).supplyLow = s.supplyLow ∧
    (s.takeConfig addressed id value).timers = s.timers ∧
    (s.takeConfig addressed id value).filters = s.filters ∧
    (s.takeConfig addressed id value).decoder = s.decoder ∧
    (s.takeConfig addressed id value).meters = s.meters ∧
    (s.takeConfig addressed id value).target = s.target ∧
    (s.takeConfig addressed id value).oil = s.oil ∧
    (s.takeConfig addressed id value).engine = s.engine ∧
    (s.takeConfig addressed id value).sequencers = s.sequencers ∧
    (s.takeConfig addressed id value).conditions = s.conditions ∧
    (s.takeConfig addressed id value).sense = s.sense ∧
    (s.takeConfig addressed id value).link = s.link ∧
    (s.takeConfig addressed id value).straps = s.straps ∧
    (s.takeConfig addressed id value).faults = s.faults := by
  refine ⟨?_, ?_, ?_, ?_, ?_, ?_, ?_, ?_, ?_, ?_, ?_, ?_, ?_, ?_, ?_⟩ <;> (simp only [State.takeConfig]; repeat' split) <;> simp

@[simp] theorem State.takeClose_frame (s : State) (addressed : Bool) :
    (s.takeClose addressed).pending = s.pending ∧
    (s.takeClose addressed).supplyLow = s.supplyLow ∧
    (s.takeClose addressed).timers = s.timers ∧
    (s.takeClose addressed).filters = s.filters ∧
    (s.takeClose addressed).decoder = s.decoder ∧
    (s.takeClose addressed).meters = s.meters ∧
    (s.takeClose addressed).target = s.target ∧
    (s.takeClose addressed).oil = s.oil ∧
    (s.takeClose addressed).engine = s.engine ∧
    (s.takeClose addressed).sequencers = s.sequencers ∧
    (s.takeClose addressed).controllers = s.controllers ∧
    (s.takeClose addressed).drivers = s.drivers ∧
    (s.takeClose addressed).conditions = s.conditions ∧
    (s.takeClose addressed).sense = s.sense ∧
    (s.takeClose addressed).link = s.link ∧
    (s.takeClose addressed).straps = s.straps ∧
    (s.takeClose addressed).faults = s.faults := by
  refine ⟨?_, ?_, ?_, ?_, ?_, ?_, ?_, ?_, ?_, ?_, ?_, ?_, ?_, ?_, ?_, ?_, ?_⟩ <;> (simp only [State.takeClose]; repeat' split) <;> simp

@[simp] theorem State.relearn_frame (s : State) (ch : Channel) :
    (s.relearn ch).pending = s.pending ∧
    (s.relearn ch).supplyLow = s.supplyLow ∧
    (s.relearn ch).timers = s.timers ∧
    (s.relearn ch).filters = s.filters ∧
    (s.relearn ch).decoder = s.decoder ∧
    (s.relearn ch).target = s.target ∧
    (s.relearn ch).oil = s.oil ∧
    (s.relearn ch).engine = s.engine ∧
    (s.relearn ch).sequencers = s.sequencers ∧
    (s.relearn ch).conditions = s.conditions ∧
    (s.relearn ch).sense = s.sense ∧
    (s.relearn ch).link = s.link ∧
    (s.relearn ch).store = s.store ∧
    (s.relearn ch).straps = s.straps ∧
    (s.relearn ch).faults = s.faults := by
  refine ⟨?_, ?_, ?_, ?_, ?_, ?_, ?_, ?_, ?_, ?_, ?_, ?_, ?_, ?_, ?_⟩ <;> (simp only [State.relearn]; repeat' split) <;> simp

@[simp] theorem State.clearChannel_frame (s : State) (relearn : Bool) (ch : Channel) :
    (s.clearChannel relearn ch).pending = s.pending ∧
    (s.clearChannel relearn ch).supplyLow = s.supplyLow ∧
    (s.clearChannel relearn ch).filters = s.filters ∧
    (s.clearChannel relearn ch).decoder = s.decoder ∧
    (s.clearChannel relearn ch).oil = s.oil ∧
    (s.clearChannel relearn ch).engine = s.engine ∧
    (s.clearChannel relearn ch).conditions = s.conditions ∧
    (s.clearChannel relearn ch).sense = s.sense ∧
    (s.clearChannel relearn ch).link = s.link ∧
    (s.clearChannel relearn ch).store = s.store ∧
    (s.clearChannel relearn ch).straps = s.straps := by
  refine ⟨?_, ?_, ?_, ?_, ?_, ?_, ?_, ?_, ?_, ?_, ?_⟩ <;> (simp only [State.clearChannel]; repeat' split) <;> simp

@[simp] theorem State.clearStation_frame (s : State) :
    s.clearStation.pending = s.pending ∧
    s.clearStation.supplyLow = s.supplyLow ∧
    s.clearStation.timers = s.timers ∧
    s.clearStation.filters = s.filters ∧
    s.clearStation.meters = s.meters ∧
    s.clearStation.target = s.target ∧
    s.clearStation.oil = s.oil ∧
    s.clearStation.engine = s.engine ∧
    s.clearStation.sequencers = s.sequencers ∧
    s.clearStation.controllers = s.controllers ∧
    s.clearStation.drivers = s.drivers ∧
    s.clearStation.conditions = s.conditions ∧
    s.clearStation.sense = s.sense ∧
    s.clearStation.link = s.link ∧
    s.clearStation.store = s.store ∧
    s.clearStation.straps = s.straps := by
  refine ⟨?_, ?_, ?_, ?_, ?_, ?_, ?_, ?_, ?_, ?_, ?_, ?_, ?_, ?_, ?_, ?_⟩ <;> simp [State.clearStation]

@[simp] theorem State.takeClear_frame (s : State) (w : Word16) :
    (s.takeClear w).pending = s.pending ∧
    (s.takeClear w).supplyLow = s.supplyLow ∧
    (s.takeClear w).filters = s.filters ∧
    (s.takeClear w).oil = s.oil ∧
    (s.takeClear w).engine = s.engine ∧
    (s.takeClear w).conditions = s.conditions ∧
    (s.takeClear w).sense = s.sense ∧
    (s.takeClear w).link = s.link ∧
    (s.takeClear w).store = s.store ∧
    (s.takeClear w).straps = s.straps := by
  refine ⟨?_, ?_, ?_, ?_, ?_, ?_, ?_, ?_, ?_, ?_⟩ <;> (simp only [State.takeClear]; repeat' split) <;> simp

@[simp] theorem State.addressClash_frame (s : State) :
    s.addressClash.pending = s.pending ∧
    s.addressClash.supplyLow = s.supplyLow ∧
    s.addressClash.filters = s.filters ∧
    s.addressClash.decoder = s.decoder ∧
    s.addressClash.engine = s.engine ∧
    s.addressClash.conditions = s.conditions ∧
    s.addressClash.sense = s.sense ∧
    s.addressClash.store = s.store ∧
    s.addressClash.straps = s.straps := by
  refine ⟨?_, ?_, ?_, ?_, ?_, ?_, ?_, ?_, ?_⟩ <;> simp [State.addressClash]

@[simp] theorem State.clearReached_frame (s : State) (f : Frame) (ch : Channel) :
    (s.clearReached f ch).pending = s.pending ∧
    (s.clearReached f ch).supplyLow = s.supplyLow ∧
    (s.clearReached f ch).timers = s.timers ∧
    (s.clearReached f ch).filters = s.filters ∧
    (s.clearReached f ch).decoder = s.decoder ∧
    (s.clearReached f ch).meters = s.meters ∧
    (s.clearReached f ch).target = s.target ∧
    (s.clearReached f ch).oil = s.oil ∧
    (s.clearReached f ch).engine = s.engine ∧
    (s.clearReached f ch).sequencers = s.sequencers ∧
    (s.clearReached f ch).drivers = s.drivers ∧
    (s.clearReached f ch).conditions = s.conditions ∧
    (s.clearReached f ch).sense = s.sense ∧
    (s.clearReached f ch).link = s.link ∧
    (s.clearReached f ch).store = s.store ∧
    (s.clearReached f ch).straps = s.straps ∧
    (s.clearReached f ch).faults = s.faults := by
  refine ⟨?_, ?_, ?_, ?_, ?_, ?_, ?_, ?_, ?_, ?_, ?_, ?_, ?_, ?_, ?_, ?_, ?_⟩ <;> (simp only [State.clearReached]; repeat' split) <;> simp

@[simp] theorem State.completeTransmission_frame (s : State) :
    s.completeTransmission.pending = s.pending ∧
    s.completeTransmission.supplyLow = s.supplyLow ∧
    s.completeTransmission.filters = s.filters ∧
    s.completeTransmission.decoder = s.decoder ∧
    s.completeTransmission.meters = s.meters ∧
    s.completeTransmission.target = s.target ∧
    s.completeTransmission.oil = s.oil ∧
    s.completeTransmission.engine = s.engine ∧
    s.completeTransmission.sequencers = s.sequencers ∧
    s.completeTransmission.drivers = s.drivers ∧
    s.completeTransmission.conditions = s.conditions ∧
    s.completeTransmission.sense = s.sense ∧
    s.completeTransmission.store = s.store ∧
    s.completeTransmission.straps = s.straps ∧
    s.completeTransmission.faults = s.faults := by
  refine ⟨?_, ?_, ?_, ?_, ?_, ?_, ?_, ?_, ?_, ?_, ?_, ?_, ?_, ?_, ?_⟩ <;> (simp only [State.completeTransmission]; repeat' split) <;> simp

/-- A completion leaves the bit time at the read of the frame's last bit (R145, R162). -/
theorem State.completeTransmission_timers {s : State} {k : SlotName} {f : Frame}
    (h : s.link.transmitter = .sending k f) :
    s.completeTransmission.timers = { s.timers with bitPhase := 30 } := by
  simp only [State.completeTransmission, h]
  split <;> simp [State.atBitRead]

end Sys2Proof.Machine
end

