-- ==== Sys2Proof/Laws/Effects.lean ====
section
/-! SUPPORT. What each shared operation does to the items it changes: the arithmetic, the command and the duty, the channel
state, the exits, the send slots, the fault latches and the passage of time. -/

namespace Sys2Proof.Machine

/-! ### Arithmetic -/

theorem limit_bounds {lo hi : Int} (h : lo ≤ hi) (x : Int) : lo ≤ limit lo hi x ∧ limit lo hi x ≤ hi := by
  unfold limit; repeat' split
  all_goals omega

theorem limit_of_mem {lo hi x : Int} (hl : lo ≤ x) (hh : x ≤ hi) : limit lo hi x = x := by
  unfold limit; repeat' split
  all_goals omega

theorem limitNat_bounds {lo hi : Nat} (h : lo ≤ hi) (x : Nat) : lo ≤ limitNat lo hi x ∧ limitNat lo hi x ≤ hi := by
  unfold limitNat; repeat' split
  all_goals omega

theorem wrapAngle_bounds (x : Int) : -3600 ≤ wrapAngle x ∧ wrapAngle x ≤ 3599 := by
  unfold wrapAngle; omega

theorem bump_le (top n : Nat) : bump top n ≤ top := by
  unfold bump; omega

theorem bump_of_lt {top n : Nat} (h : n < top) : bump top n = n + 1 := by
  unfold bump; omega

/-- A quotient that truncates toward zero lies between 0 and the dividend. -/
theorem divTrunc_between (x : Int) {d : Int} (hd : 0 < d) :
    (0 ≤ x → 0 ≤ divTrunc x d ∧ divTrunc x d ≤ x) ∧ (x ≤ 0 → x ≤ divTrunc x d ∧ divTrunc x d ≤ 0) := by
  unfold divTrunc
  constructor
  · intro hx
    rw [Int.tdiv_eq_ediv_of_nonneg hx]
    exact ⟨Int.ediv_nonneg hx hd.le, Int.ediv_le_self _ hx⟩
  · intro hx
    have h : x.tdiv d = -((-x) / d) := by
      rw [← Int.tdiv_eq_ediv_of_nonneg (by omega : 0 ≤ -x), Int.neg_tdiv, neg_neg]
    have h1 := Int.ediv_le_self d (by omega : 0 ≤ -x)
    have h2 := Int.ediv_nonneg (by omega : 0 ≤ -x) hd.le
    omega

/-- A filtered value stays within any range that holds the old value and the sample (R137). -/
theorem filtered_bounds {lo hi s : Int} {old : Option Int} (hs : lo ≤ s ∧ s ≤ hi)
    (ho : ∀ f, old = some f → lo ≤ f ∧ f ≤ hi) : lo ≤ filtered old s ∧ filtered old s ≤ hi := by
  cases old with
  | none => exact hs
  | some f =>
    have hf := ho f rfl
    have h := divTrunc_between (s - f) (by decide : (0 : Int) < 4)
    simp only [filtered]
    rcases le_total 0 (s - f) with h0 | h0
    · have := h.1 h0; omega
    · have := h.2 h0; omega

/-! ### Command and duty -/

theorem State.command_modController (s : State) (ch c : Channel) (f : Controller → Controller) :
    (s.modController ch f).command c = if c = ch then (f (s.controllers.get ch)).command else s.command c := by
  cases ch <;> cases c <;> rfl

@[simp] theorem State.setCommand_controllers (s : State) (ch : Channel) (i : Nat) :
    (s.setCommand ch i).controllers = s.controllers.set ch { s.controllers.get ch with command := i } := by
  simp only [State.setCommand]; split <;> simp

theorem State.setCommand_command (s : State) (ch c : Channel) (i : Nat) :
    (s.setCommand ch i).command c = if c = ch then i else s.command c := by
  cases ch <;> cases c <;> simp [State.command, Pair.get, Pair.set]

theorem State.computeDuty_drivers (s : State) (ch : Channel) :
    (s.computeDuty ch).drivers =
      s.drivers.set ch
        { s.drivers.get ch with
          duty := (dutyOf (s.command ch) (s.drivers.get ch).rEst (s.driverCut ch) s.sense.supply).1
          saturated := (dutyOf (s.command ch) (s.drivers.get ch).rEst (s.driverCut ch) s.sense.supply).2
          output :=
            (s.drivers.get ch).output &&
              decide ((dutyOf (s.command ch) (s.drivers.get ch).rEst (s.driverCut ch) s.sense.supply).1 ≠ 0) } := rfl

/-- A duty lies in 0..1000, and is 0 for a command of 0 and for a cut driver (R120). -/
theorem dutyOf_spec (command rEst : Nat) (cut : Bool) (supply : Option Int) :
    (dutyOf command rEst cut supply).1 ≤ 1000 ∧
      (command = 0 ∨ cut = true → dutyOf command rEst cut supply = (0, false)) := by
  refine ⟨?_, fun h => by simp [dutyOf, h]⟩
  unfold dutyOf
  split
  · simp
  · cases supply with
    | none => simp
    | some v => simp only; split <;> omega

/-! ### Channel state -/

theorem State.setChannelState_sequencers (s : State) (ch : Channel) (new : ChannelState) :
    (s.setChannelState ch new).sequencers = s.sequencers.set ch { s.sequencers.get ch with state := new } := by
  cases new <;> simp only [State.setChannelState] <;> repeat' split
  all_goals simp

theorem State.setChannelState_state (s : State) (ch c : Channel) (new : ChannelState) :
    (s.setChannelState ch new).channelState c = if c = ch then new else s.channelState c := by
  cases ch <;> cases c <;> simp [State.channelState, State.setChannelState_sequencers, Pair.get, Pair.set]

/-- The command after a change of channel state: 0 for PARKED, RETURNING and FAULT, unchanged for the two others (R75). -/
theorem State.setChannelState_command (s : State) (ch c : Channel) (new : ChannelState) :
    (s.setChannelState ch new).command c = if c = ch ∧ new.running = false then 0 else s.command c := by
  cases new <;> simp only [State.setChannelState] <;> repeat' split
  all_goals
    cases ch <;> cases c <;> simp_all [State.command, ChannelState.running, Pair.get, Pair.set]

/-- The effective target after a change of channel state: 0 for a channel that leaves TRACKING (R49). -/
theorem State.setChannelState_effective (s : State) (ch c : Channel) (new : ChannelState) :
    (s.setChannelState ch new).target.effective.get c =
      if c = ch ∧ s.channelState ch = .tracking ∧ new ≠ .tracking then 0 else s.target.effective.get c := by
  cases new <;> simp only [State.setChannelState] <;> repeat' split
  all_goals
    cases ch <;> cases c <;> simp_all [Pair.get, Pair.set, State.channelState]

theorem State.enterReturning_state (s : State) (ch c : Channel) :
    (s.enterReturning ch).channelState c =
      if c = ch then (if s.decoder.crank = .cycleSync then .returning else .parked) else s.channelState c := by
  by_cases h : s.decoder.crank = .cycleSync <;> cases ch <;> cases c <;>
    simp [State.enterReturning, State.channelState, State.setChannelState_sequencers, Pair.get, Pair.set, h]

theorem State.exitRunning_state (s : State) (ch c : Channel) :
    (s.exitRunning ch).channelState c =
      if c = ch ∧ (s.channelState ch).running = true then
        (if s.decoder.crank = .cycleSync then .returning else .parked)
      else s.channelState c := by
  by_cases h : (s.channelState ch).running = true <;>
    simp [State.exitRunning, h, State.enterReturning_state]

theorem State.returnRunning_state (s : State) (c : Channel) :
    (s.returnRunning).channelState c =
      if (s.channelState c).running = true then (if s.decoder.crank = .cycleSync then .returning else .parked)
      else s.channelState c := by
  cases c <;> simp [State.returnRunning, State.exitRunning_state]

/-- After the exits no channel is in RELEASING or TRACKING (R77). -/
theorem State.returnRunning_none_runs (s : State) (c : Channel) : ((s.returnRunning).channelState c).running = false := by
  rw [State.returnRunning_state]
  split
  · split <;> rfl
  · simp_all

/-! ### Send slots and fault latches -/

theorem State.offer_link (s : State) (k : SlotName) (f : Frame) :
    (s.offer k f).link = if s.link.silence = true then s.link else s.link.modSlot k fun sl => sl.queue f := by
  unfold State.offer; split <;> simp

theorem Link.slot_setSlot (l : Link) (k j : SlotName) (v : Slot) :
    (l.setSlot k v).slot j = if j = k then v else l.slot j := by
  cases k <;> cases j <;> rfl

theorem Link.slot_modSlot (l : Link) (k j : SlotName) (f : Slot → Slot) :
    (l.modSlot k f).slot j = if j = k then f (l.slot k) else l.slot j := by
  cases k <;> cases j <;> rfl

/-- The latch of a kind already present changes nothing (R176). -/
theorem State.latchChannel_of_has {s : State} {ch : Channel} {k : ChannelFault}
    (h : (s.faults.channel.get ch).has k = true) : s.latchChannel ch k = s := by
  simp [State.latchChannel, h]

theorem State.latchChannel_faults (s : State) (ch : Channel) (k : ChannelFault) :
    (s.latchChannel ch k).faults =
      if (s.faults.channel.get ch).has k = true then s.faults
      else { s.faults with channel := s.faults.channel.set ch ((s.faults.channel.get ch).add k) } := by
  unfold State.latchChannel; split <;> simp

/-- A new channel latch takes its channel to FAULT and leaves the other channel's state (R92). -/
theorem State.latchChannel_state (s : State) (ch c : Channel) (k : ChannelFault) :
    (s.latchChannel ch k).channelState c =
      if c = ch ∧ (s.faults.channel.get ch).has k = false then .fault else s.channelState c := by
  by_cases h : (s.faults.channel.get ch).has k = true
  · simp [State.latchChannel_of_has h, h]
  · cases ch <;> cases c <;>
      simp_all [State.latchChannel, State.channelState, State.setChannelState_sequencers, Pair.get, Pair.set]

/-- The latch of a station kind already present changes nothing (R176). -/
theorem State.latchStation_of_has {s : State} {k : StationFault} (h : s.faults.station.has k = true) :
    s.latchStation k = s := by
  simp [State.latchStation, h]

theorem State.latchStation_faults (s : State) (k : StationFault) :
    (s.latchStation k).faults =
      if s.faults.station.has k = true then s.faults else { s.faults with station := s.faults.station.add k } := by
  unfold State.latchStation; split
  · rfl
  · cases k <;> simp

/-- A new station latch takes running channels out of their states (R77). -/
theorem State.latchStation_state (s : State) (k : StationFault) (c : Channel) :
    (s.latchStation k).channelState c =
      if s.faults.station.has k = true then s.channelState c
      else if (s.channelState c).running = true then (if s.decoder.crank = .cycleSync then .returning else .parked)
      else s.channelState c := by
  unfold State.latchStation; split
  · rfl
  · cases k <;> simp only [State.returnRunning_state] <;> simp [State.channelState] <;> rfl

/-! ### The passage of time -/

theorem State.elapse_timers (s : State) (n : Nat) : (s.elapse n).timers = s.timers.advance n := by
  simp only [State.elapse]; split <;> simp

theorem State.elapse_link (s : State) (n : Nat) :
    (s.elapse n).link =
      if s.link.quiet = true then s.link.recessiveReads (bitReads s.timers.bitPhase n) else s.link := by
  simp only [State.elapse]; split <;> simp_all

/-- The ticks and the owed ends of a cyclic timer account for every tick that passes. -/
theorem Cyclic.advance_total (period n : Nat) (c : Cyclic) :
    period * (c.advance period n).owed + (c.advance period n).ticks = period * c.owed + c.ticks + n := by
  have := Nat.div_add_mod (c.ticks + n) period
  simp only [Cyclic.advance, Nat.mul_add]
  omega

theorem Cyclic.advance_ticks_lt {period : Nat} (h : 0 < period) (n : Nat) (c : Cyclic) :
    (c.advance period n).ticks < period := Nat.mod_lt _ h

/-- The ticks that remain to the end bring exactly that end, where none is owed. -/
theorem Cyclic.advance_toEnd {period : Nat} {c : Cyclic} (ho : c.owed = 0) (ht : c.ticks < period) :
    c.advance period (c.toEnd period) = { ticks := 0, owed := 1 } := by
  have h : c.ticks + (period - c.ticks) = period := by omega
  simp [Cyclic.advance, Cyclic.toEnd, ho, h, Nat.div_self (by omega : 0 < period)]

theorem Cyclic.toEnd_of_owed {period : Nat} {c : Cyclic} (ho : c.owed ≠ 0) : c.toEnd period = 0 := by
  simp [Cyclic.toEnd, ho]

@[simp] theorem Cyclic.take_ticks (c : Cyclic) : c.take.ticks = c.ticks := rfl
@[simp] theorem Cyclic.take_owed (c : Cyclic) : c.take.owed = c.owed - 1 := rfl

/-- The time to a read and k whole bit times hold k + 1 reads of the line (R145). -/
theorem bitReads_ticksToRead {phase : Nat} (h : phase < 40) (k : Nat) :
    bitReads phase (ticksToRead phase + 40 * k) = k + 1 := by
  unfold bitReads ticksToRead
  omega

/-- Recessive reads keep the gap count and the dominant run in their ranges, and clear the bus-stuck flag exactly as the gap
count comes to 11 (R145, R154). -/
theorem Link.recessiveReads_spec (l : Link) {k : Nat} (hk : 0 < k) :
    (l.recessiveReads k).gapCount = min 11 (l.gapCount + k) ∧ (l.recessiveReads k).dominantRun = 0 ∧
      (l.recessiveReads k).busStuck = (l.busStuck && decide ((l.recessiveReads k).gapCount < 11)) := by
  have h : decide (l.gapCount + k < 11) = decide (min 11 (l.gapCount + k) < 11) := decide_eq_decide.2 (by omega)
  rw [Link.recessiveReads, if_neg (by omega)]
  exact ⟨rfl, rfl, congrArg (l.busStuck && ·) h⟩

theorem State.passDominant_timers (s : State) (k : Nat) :
    (s.passDominant k).timers =
      { s.timers.advance (s.ticksToDominant + 40 * (k - 1)) with bitPhase := 30 } := rfl

@[simp] theorem State.atBitRead_link (s : State) (f : Link → Link) : (s.atBitRead f).link = f s.link := rfl

/-- After the read of a bit of a frame the bit time stands at its read point, and every other timer where it stood (R145). -/
@[simp] theorem State.atBitRead_timers (s : State) (f : Link → Link) :
    (s.atBitRead f).timers = { s.timers with bitPhase := 30 } := rfl

/-- From the read of a frame's last bit, 40 ticks pass for each further read of the line (R145). -/
theorem bitReads_afterRead (k : Nat) : bitReads 30 (40 * k) = k := by
  unfold bitReads
  omega

/-- A completed slot leaves the timers advanced to its end, with one completion less owed (R134). -/
theorem State.completeSlot_timers (s : State) :
    s.completeSlot.timers =
      { s.timers.advance (s.timers.slot.toEnd 500) with
        slot := (s.timers.advance (s.timers.slot.toEnd 500)).slot.take } := by
  simp [State.completeSlot, State.elapse_timers]

/-! ### The oil budget unit -/

/-- The unit's cycle reference: its conditions and its budget from the states the channels have, and then the exits of "oil low"
(R60, R61, R65, R68). -/
theorem State.oilCycleReference_cases (s : State) :
    (s.oilLowRises = true ∧ s.oilCycleReference = s.evaluateOil.budgetCompute.returnRunning) ∨
      (s.oilLowRises = false ∧ s.oilCycleReference = s.evaluateOil.budgetCompute) := by
  unfold State.oilCycleReference
  cases s.oilLowRises <;> simp

/-! ### The step -/

/-- With VDD above the threshold a meaning answers its effect. -/
theorem act_of_live {s : State} (h : s.supplyLow = false) (f : State → State) : act s f = .next (f s) := by
  simp [act, h]

/-- While VDD stands below the threshold a guarded meaning changes nothing (R174). -/
theorem act_of_low {s : State} (h : s.supplyLow = true) (f : State → State) : act s f = .next s := by
  simp [act, h]

end Sys2Proof.Machine
end

