-- ==== Sys2Proof/Laws/Frames.lean ====
section
/-! SUPPORT. The reception of a good frame: the three ways it is taken (R150, R153), and the delivery of each class the part
uses, with the operation it reaches. -/

namespace Sys2Proof.Machine

/-- A frame of another station can be read exactly when the part sends none and the line is idle or a frame is being read
(R145). -/
theorem Link.hears_iff (l : Link) :
    l.hears = true ↔ l.transmitter = .free ∧ (l.reading ≠ .no ∨ l.gapCount = 11) := by
  simp [Link.hears]

/-- After a bit error the part reads on what remains of its own frame, or the bit ends that frame (R147, R151); nothing but the
reading and the gap count changes. -/
theorem Link.readRemains_cases (l : Link) (bits : List Bool) :
    (∃ n, judge bits = .aborted n ∧ l.readRemains bits = { l with reading := .no, gapCount := 0 }) ∨
      ((∀ n, judge bits ≠ .aborted n) ∧ l.readRemains bits = { l with reading := .ownRemains }) := by
  unfold Link.readRemains
  cases judge bits <;> simp

/-- Where no frame of another station can be read, nothing is received (R145, R150). -/
theorem State.receive_of_not_hearing {s : State} (h : s.link.hears = false) (f : Frame) (straps : Straps) :
    s.receive f straps = s := by
  simp [State.receive, h]

/-- A good frame that carries the part's own source address (R153). -/
theorem State.receive_of_own {s : State} {f : Frame} (h : s.link.hears = true)
    (ha : f.header.source = s.straps.address) (straps : Straps) :
    s.receive f straps = (s.atBitRead fun l => l.endFrame.countGood).addressClash := by
  simp [State.receive, h, ha]

/-- A good frame of another station that the part accepts (R150). -/
theorem State.receive_of_accepted {s : State} {f : Frame} (h : s.link.hears = true)
    (ha : f.header.source ≠ s.straps.address) (hc : accepted s.straps.address f = true) (straps : Straps) :
    s.receive f straps = (s.atBitRead fun l => l.endFrame.countGood).deliver f straps := by
  simp [State.receive, h, ha, hc]

/-- A good frame of another station that the part does not accept (R150). -/
theorem State.receive_of_not_accepted {s : State} {f : Frame} (h : s.link.hears = true)
    (ha : f.header.source ≠ s.straps.address) (hc : accepted s.straps.address f = false) (straps : Straps) :
    s.receive f straps = s.atBitRead fun l => l.endFrame.countGood := by
  simp [State.receive, h, ha, hc]

theorem State.deliver_fault (s : State) (h : Header) (w0 w1 w2 : Word16) (straps : Straps) :
    s.deliver { cls := 0, header := h, payload := [w0, w1, w2] } straps = s := rfl

theorem State.deliver_target (s : State) (h : Header) (mode intake exhaust : Word16) (straps : Straps) :
    s.deliver { cls := 1, header := h, payload := [mode, intake, exhaust] } straps =
      s.modTarget fun t => t.arrival h.addressed mode intake exhaust := rfl

theorem State.deliver_engine (s : State) (h : Header) (code : Word16) (straps : Straps) :
    s.deliver { cls := 2, header := h, payload := [code] } straps = s.engineArrival code := rfl

theorem State.deliver_status (s : State) (h : Header) (w0 w1 w2 w3 w4 w5 w6 : Word16) (straps : Straps) :
    s.deliver { cls := 3, header := h, payload := [w0, w1, w2, w3, w4, w5, w6] } straps =
      s.modOil fun o => o.statusArrival h.source w5 := rfl

theorem State.deliver_clear (s : State) (h : Header) (w : Word16) (straps : Straps) :
    s.deliver { cls := 4, header := h, payload := [w] } straps = s.takeClear w := rfl

theorem State.deliver_config (s : State) (h : Header) (id value : Word16) (straps : Straps) :
    s.deliver { cls := 5, header := h, payload := [id, value] } straps = s.takeConfig h.addressed id value := rfl

theorem State.deliver_close (s : State) (h : Header) (straps : Straps) :
    s.deliver { cls := 6, header := h, payload := [] } straps = s.takeClose h.addressed := rfl

theorem State.deliver_restart (s : State) (h : Header) (straps : Straps) :
    s.deliver { cls := 7, header := h, payload := [] } straps = s.takeRestart h.addressed straps := rfl

/-- A frame whose class or length no block uses is ignored (R150). -/
theorem State.deliver_unused {f : Frame} (h : frameUse f = .unused) (s : State) (straps : Straps) :
    s.deliver f straps = s := by
  simp [State.deliver, h]

/-- The classes and lengths that some block uses (R150, step 4). -/
theorem use_eq_unused_iff (f : Frame) :
    frameUse f = .unused ↔
      ¬((f.cls.toNat, f.payload.length) ∈ [(1, 3), (2, 1), (3, 7), (4, 1), (5, 2), (6, 0), (7, 0)]) := by
  obtain ⟨c, h, p⟩ := f
  have hc : ∀ d : BitVec 4, c = d ↔ c.toNat = d.toNat := fun d => BitVec.toNat_inj.symm
  match p with
  | [] => simp only [frameUse, hc]; split <;> rename_i h1 <;> [skip; split <;> rename_i h2] <;> simp_all
  | [_] => simp only [frameUse, hc]; split <;> rename_i h1 <;> [skip; split <;> rename_i h2] <;> simp_all
  | [_, _] => simp only [frameUse, hc]; split <;> simp_all
  | [_, _, _] => simp only [frameUse, hc]; split <;> simp_all
  | [_, _, _, _] => simp [frameUse]
  | [_, _, _, _, _] => simp [frameUse]
  | [_, _, _, _, _, _] => simp [frameUse]
  | [_, _, _, _, _, _, _] => simp only [frameUse, hc]; split <;> simp_all
  | _ :: _ :: _ :: _ :: _ :: _ :: _ :: _ :: _ => simp [frameUse]

end Sys2Proof.Machine
end

