-- ==== Sys2Proof/Tests/Slice0.lean ====
section
/-! SUPPORT. The model's own tests. The operand checks refuse ill-formed commands. The manual's worked tables come out of the
model's operations: every expected value is the manual's. For each obligation with hypotheses a state and operands meet them,
clause by clause, at the boundary values. -/

namespace Sys2Proof.Tests

open Sys2Proof.Machine Sys2Proof.Safety

/-! ### The operand checks refuse ill-formed commands -/

def crowded : Frame := { cls := 3, header := ⟨1, false, 0⟩, payload := [0, 0, 0, 0, 0, 0, 0, 0, 0] }

def strayDest : Frame := { cls := 3, header := ⟨1, false, 5⟩, payload := [] }

/-- A frame of eight payload words. -/
def longest : Frame := { cls := 9, header := ⟨1, false, 0⟩, payload := [0, 0, 0, 0, 0, 0, 0, 0] }

theorem test_wellFormed_filterTimeExpiry : (Instr.filterTimeExpiry .crank [.target, .target]).wellFormed = false := by decide
theorem test_wellFormed_oilpSensor : (Instr.oilpSensor 205).wellFormed = false := by decide
theorem test_wellFormed_framePassedOver : (Instr.framePassedOver crowded).wellFormed = false := by decide
theorem test_wellFormed_addressClash : (Instr.addressClash strayDest).wellFormed = false := by decide
theorem test_wellFormed_frameDiscarded_start : (Instr.frameDiscarded []).wellFormed = false := by decide
theorem test_wellFormed_frameDiscarded_length :
    (Instr.frameDiscarded (false :: List.replicate 188 true)).wellFormed = false := by
  rw [Instr.wellFormed, List.length_cons, List.length_replicate]
  decide
theorem test_wellFormed_lostArbitration : (Instr.lostArbitration 8).wellFormed = false := by decide
theorem test_wellFormed_bitError : (Instr.bitError 188).wellFormed = false := by decide
theorem test_wellFormed_slotDrop : (Instr.slotDrop 188).wellFormed = false := by decide

/-- The table gives its rows no bits, so that no word spells a command. -/
theorem test_withFetchWord : State.reset.withFetchWord 16 0 = State.reset := rfl

/-! ### Worked tables of the manual -/

/-- A state in which the crank stands at a tooth of CYCLE_SYNC, in half 1, with the last edge at time stamp 50,000. -/
def synced (tooth pRef : Nat) : State :=
  { State.reset with
    decoder :=
      { State.reset.decoder with
        crank := .cycleSync, lastEdge := some 50000, pRef := some pRef, tooth := some tooth, half := some .one
        stallRunning := true } }

/-- A state in GAP_SEEK with the last edge at time stamp 50,000. -/
def seeking (pRef : Option Nat) : State :=
  { State.reset with
    decoder := { State.reset.decoder with crank := .gapSeek, lastEdge := some 50000, pRef := pRef, stallRunning := true } }

/-- Section 1.3, the crank acquisition table, the edge at 1,500,000: the gap of 300,000 gives REV_SYNC, tooth 0, P_ref 100,000. -/
theorem test_gap_gains_revSync :
    let s : State :=
      { State.reset with
        decoder :=
          { State.reset.decoder with
            crank := .gapSeek, lastEdge := some 1200000, pRef := some 98000, stallRunning := true } };
    (s.crankEdge 1500000 []).decoder.crank = .revSync ∧ (s.crankEdge 1500000 []).decoder.tooth = some 0 ∧
      (s.crankEdge 1500000 []).decoder.pRef = some 100000 := by
  decide

/-- Section 1.4, the interpolated angle across a wrap of the time base. -/
theorem test_interpolated_angle :
    let d : Decoder := { (synced 20 3333).decoder with lastEdge := some 4294966000 };
    d.revAngle 450 = 2462 ∧ d.cycleAngle 2462 = some 6062 := by
  decide

/-- Section 2.3, the intake edge at 1332: assigned to E1, raw deviation −268, phase 239. -/
theorem test_edge_phase :
    let m : Meter :=
      { State.reset.meters.a with
        parkOffset := some (-23), corr := { e0 := 4, e1 := -6, e2 := 2, e3 := 0, e4 := -3 }, estimate := some 212 };
    m.assign .a .front 1332 = some .e1 ∧ rawDeviation .front 1332 .e1 = -268 ∧ m.edgePhase .a .e1 (-268) = 239 := by
  decide

/-- Section 2.5, cycle 40: the offset and the corrections acquired. -/
theorem test_park_acquisition :
    let r : Int → RingRecord := fun x => ⟨39, x, true⟩;
    let m : Meter := { State.reset.meters.a with ring := ⟨r (-28), r (-35), r (-22), r (-31), r (-40)⟩ };
    (m.learn m.meanDeviation).parkOffset = some (-31) ∧
      (m.learn m.meanDeviation).corr = { e0 := 3, e1 := -4, e2 := 9, e3 := 0, e4 := -9 } := by
  decide

/-- Section 3.3, three rows of the guard's table. -/
theorem test_overlapGuard :
    ({ mode := .track, intake := 600, exhaust := 350 } : Request).targets Params.default = ⟨500, 200⟩ ∧
      ({ mode := .track, intake := 300, exhaust := 450 } : Request).targets Params.default = ⟨300, 400⟩ ∧
        overlapGuard 400 450 100 = ⟨400, 0⟩ := by
  decide

/-- Section 4.8, the budget of the FRONT part: C 21, T 39, B 30, step 15. -/
theorem test_budget :
    channelClaim .tracking (some 480) + channelClaim .tracking (some (-360)) = 21 ∧
      freshClaims (agePeers [⟨2, 18, 0⟩, ⟨3, 4, 16⟩, ⟨5, 7, 5⟩]) = 18 ∧ budgetOf Params.default 230 = 30 ∧
        stepOf 20 30 39 = 15 := by
  decide

/-- Section 6.2, the worked updates at the output limits. -/
theorem test_piOutput :
    piOutput 24 8 480 20 38 1000 = (24, 561) ∧ piOutput 24 8 480 280 700 1000 = (280, 1000) ∧
      piOutput 24 8 480 (-20) (-400) 1000 = (-20, 0) ∧ piOutput 24 8 480 300 (-10) 500 = (299, 500) := by
  decide

/-- Section 6.4, the worked null transfer. -/
theorem test_nullTransfer :
    let c : Controller := { State.reset.controllers.a with integrator := 64 };
    c.nullTransfer.learnedNull = 488 ∧ c.nullTransfer.integrator = 56 := by
  decide

/-- Section 7.2, rows of the duty table. -/
theorem test_duty :
    dutyOf 600 750 false (some 13500) = (333, false) ∧ dutyOf 1000 750 false (some 7200) = (1000, true) ∧
      dutyOf 1000 1200 false (some 12000) = (1000, false) ∧ onTimeOf 333 = 832 := by
  decide

/-- Section 7.3, the worked trim. -/
theorem test_trim :
    measuredResistance 13500 333 499 = 900 ∧ trimmedEstimate 750 750 900 = 754 ∧ trimmedEstimate 750 750 749 = 749 := by
  decide

/-- R134: slot 3 of pass 1 begins 6,500 ticks after reset. -/
theorem test_slot_position :
    (State.reset.elapse 6500).timers.slotIndex = 3 ∧ (State.reset.elapse 6500).timers.slot.ticks = 0 ∧
      (State.reset.elapse 6499).timers.slotIndex = 2 := by
  decide

/-- R145: a recessive line is idle 44 µs (440 ticks) after reset. -/
theorem test_idle_after_reset :
    (State.reset.elapse 439).link.gapCount = 10 ∧ (State.reset.elapse 440).link.gapCount = 11 := by
  decide

/-- R145: the line is idle three bit times (120 ticks) after a frame read to its end, wherever the bit time stood before. -/
theorem test_idle_after_frame :
    let read := { State.reset with timers := { State.reset.timers with bitPhase := 5 } }.atBitRead fun l => l.endFrame;
    (read.elapse 119).link.gapCount = 10 ∧ (read.elapse 120).link.gapCount = 11 := by
  decide

/-- R26, R28: angles just outside −3600..+3599 wrap, and the bounds stay. -/
theorem test_wrapAngle :
    wrapAngle 3600 = -3600 ∧ wrapAngle 3599 = 3599 ∧ wrapAngle (-3600) = -3600 ∧ wrapAngle (-3601) = 3599 ∧
      wrapAngle (-7100) = 100 := by
  decide

/-- Section 8.3, rows of the scaling table. -/
theorem test_scaling :
    scaleCurrent 682 = 499 ∧ scalePressure 1000 = 180 ∧ scalePressure 4095 = 1000 ∧ scaleSupply 2765 = 13500 ∧
      scaleTemperature 0 = -50 := by
  decide

/-- Section 8.6, the first two rows of the worked sender failure. -/
theorem test_filtered : filtered (some 212) 0 = 159 ∧ filtered (some 159) 0 = 120 := by decide

/-- Section 9.2, the length of a CLOSE frame on the line. -/
theorem test_close_length :
    ({ cls := 6, header := ⟨1, true, 3⟩, payload := [] } : Frame).lineBits.length = 44 := by
  decide

/-- Section 9.9, the worked arbitration: the REAR part, at address 2, loses at bit 6 and not at bit 5. -/
theorem test_arbitration :
    let f : Frame := { cls := 3, header := ⟨2, false, 0⟩, payload := [] };
    losesArbitration f 5 = false ∧ losesArbitration f 6 = true := by
  decide

/-- R167: ADDR2 is the most significant bit, a high pin is 1, ROLE low is FRONT, FLTMODE low is level mode. -/
theorem test_sampleStraps :
    sampleStraps ⟨.high, .low, .low, .low, .high⟩ = ⟨4, .front, .pulse⟩ ∧
      sampleStraps ⟨.low, .high, .high, .high, .low⟩ = ⟨3, .rear, .level⟩ := by
  decide

/-- Section 10.3, the check value after id 0 is set to 650. -/
theorem test_checkValue : (State.reset.store.storeParam 0 650).checkValue = 6940 := by decide

/-! ### States and operands that meet the hypotheses of the obligations -/

theorem witness_StepRunsFrontCommand :
    (∃ (c : Instr) (rest : List Instr) (s : State), s.pending = c :: rest) :=
  ⟨.sendStart, [], { State.reset with pending := [.sendStart] }, by decide⟩

theorem witness_EmptyQueueTick :
    (∃ s : State, s.pending = [] ∧ s.supplyLow = false) ∧
      (∃ s : State, s.pending = [] ∧ s.supplyLow = true) :=
  ⟨⟨State.reset, by decide⟩,
    ⟨{ State.reset with supplyLow := true }, by decide⟩⟩

theorem witness_PowerOnResetEffect :
    (∃ s : State, s.supplyLow = true) ∧ (∃ s : State, s.supplyLow = false) ∧
      ∃ c : Instr, (∀ edge pins, c ≠ .powerOnReset edge pins) ∧ c ≠ .parkPinChange :=
  ⟨⟨{ State.reset with supplyLow := true }, rfl⟩, ⟨State.reset, rfl⟩,
    ⟨.sendStart, (by intro _ _ h; cases h), (by intro h; cases h)⟩⟩

theorem witness_InputFilterCommands :
    (∃ s : State, s.supplyLow = false ∧ (s.filters.get .crank).candidate = none) ∧
      (∃ (c : Candidate) (s : State), s.supplyLow = false ∧ (s.filters.get .crank).candidate = some c ∧
          camChannel .crank = none ∧ (s.filters.get .crank).level = .high) ∧
      (∃ (c : Candidate) (s : State), s.supplyLow = false ∧ (s.filters.get .camB).candidate = some c ∧
          camChannel .camB = some .b ∧ (s.filters.get .camB).level = .low) :=
  ⟨⟨State.reset, by decide⟩,
    ⟨⟨7, 40⟩, { State.reset with filters := { State.reset.filters with crank := ⟨.high, some ⟨7, 40⟩⟩ } }, by decide⟩,
    ⟨⟨7, 40⟩, { State.reset with filters := { State.reset.filters with camB := ⟨.low, some ⟨7, 40⟩⟩ } }, by decide⟩⟩

theorem witness_CrankEdgesWithoutSync :
    (∃ s : State, s.decoder.crank = .stopped ∧ s.decoder.pRef = none) ∧
      (∃ s : State, s.decoder.crank = .gapSeek ∧ s.decoder.pRef = none) ∧
      (∃ (t : Tick) (s : State), s.decoder.pRef = some 1000 ∧ s.decoder.interval t < 1000 / 4) ∧
      (∃ (t : Tick) (s : State), s.decoder.crank = .gapSeek ∧ s.decoder.pRef = some 1000 ∧
          1000 / 4 = s.decoder.interval t) ∧
      (∃ (t : Tick) (s : State), s.decoder.crank = .gapSeek ∧ s.decoder.pRef = some 1000 ∧
          s.decoder.interval t = 4 * 1000 + 1) ∧
      (∃ (t : Tick) (s : State), s.decoder.crank = .gapSeek ∧ s.decoder.pRef = some 1000 ∧
          s.decoder.interval t = 2 * 1000) ∧
      (∃ (t : Tick) (s : State), s.decoder.crank = .gapSeek ∧ s.decoder.pRef = some 1000 ∧
          s.decoder.interval t = 4 * 1000) :=
  ⟨⟨State.reset, by decide⟩,
    ⟨seeking none, by decide⟩,
    ⟨50249, seeking (some 1000), by decide⟩,
    ⟨50250, seeking (some 1000), by decide⟩,
    ⟨54001, seeking (some 1000), by decide⟩,
    ⟨52000, seeking (some 1000), by decide⟩,
    ⟨54000, seeking (some 1000), by decide⟩⟩

theorem witness_CrankEdgesWithSync :
    (∃ (t : Tick) (s : State), s.decoder.crank = .cycleSync ∧ s.decoder.tooth = some 26 ∧
        s.decoder.pRef = some 1000 ∧ s.decoder.interval t = 250) ∧
      (∃ (t : Tick) (s : State), s.decoder.crank = .cycleSync ∧ s.decoder.tooth = some 26 ∧
          s.decoder.pRef = some 1000 ∧ s.decoder.interval t = 1999) ∧
      (∃ (t : Tick) (s : State), s.decoder.crank = .cycleSync ∧ s.decoder.tooth = some 26 ∧
          s.decoder.pRef = some 1000 ∧ s.decoder.interval t = 2000) ∧
      (∃ (t : Tick) (s : State), s.decoder.crank = .cycleSync ∧ s.decoder.tooth = some 27 ∧
          s.decoder.pRef = some 1000 ∧ s.decoder.interval t = 1999) ∧
      (∃ (t : Tick) (s : State), s.decoder.crank = .cycleSync ∧ s.decoder.tooth = some 27 ∧
          s.decoder.pRef = some 1000 ∧ s.decoder.interval t = 4001) ∧
      (∃ (t : Tick) (s : State), s.decoder.crank = .cycleSync ∧ s.decoder.tooth = some 27 ∧
          s.decoder.pRef = some 1000 ∧ s.decoder.interval t = 4000 ∧ s.decoder.half = some .one) ∧
      (∃ (t : Tick) (s : State), s.decoder.crank = .cycleSync ∧ s.decoder.tooth = some 27 ∧
          s.decoder.pRef = some 1000 ∧ s.decoder.interval t = 2000 ∧ s.decoder.half = some .zero) ∧
      (∃ (t : Tick) (s : State), s.decoder.crank = .revSync ∧ s.decoder.tooth = some 27 ∧
          s.decoder.pRef = some 1000 ∧ s.decoder.interval t = 2000) :=
  ⟨⟨50250, synced 26 1000, by decide⟩,
    ⟨51999, synced 26 1000, by decide⟩,
    ⟨52000, synced 26 1000, by decide⟩,
    ⟨51999, synced 27 1000, by decide⟩,
    ⟨54001, synced 27 1000, by decide⟩,
    ⟨54000, synced 27 1000, by decide⟩,
    ⟨52000, { synced 27 1000 with decoder := { (synced 27 1000).decoder with half := some .zero } }, by decide⟩,
    ⟨52000, { synced 27 1000 with decoder := { (synced 27 1000).decoder with crank := .revSync, half := none } }, by decide⟩⟩

theorem witness_StallAndLossCounting :
    (∃ s : State, s.supplyLow = false ∧ s.decoder.stallRunning = false) ∧
      (∃ s : State, s.supplyLow = false ∧ s.decoder.stallRunning = true ∧ s.decoder.crank = .gapSeek) ∧
      (∃ s : State, s.supplyLow = false ∧ s.decoder.stallRunning = true ∧
          (s.decoder.crank = .revSync ∨ s.decoder.crank = .cycleSync)) ∧
      (∃ s : State, s.supplyLow = false ∧ s.decoder.crank ≠ .stopped ∧ s.decoder.lossCounter = 3) ∧
      (∃ s : State, s.supplyLow = false ∧ s.decoder.crank = .cycleSync ∧ s.decoder.lossFreeRun = 255) :=
  ⟨⟨State.reset, by decide⟩,
    ⟨seeking none, by decide⟩,
    ⟨synced 5 1000, by decide⟩,
    ⟨{ seeking none with decoder := { (seeking none).decoder with lossCounter := 3 } }, by decide⟩,
    ⟨{ synced 5 1000 with decoder := { (synced 5 1000).decoder with lossFreeRun := 255 } }, by decide⟩⟩

theorem witness_CamSupervision :
    (∃ s : State, s.supplyLow = false ∧ s.decoder.crank = .cycleSync ∧
        (if (s.meters.get .a).edgeSeen = true then (s.meters.get .a).missing else min 4 ((s.meters.get .a).missing + 1)) = 4) ∧
      (∃ s : State, s.supplyLow = false ∧ s.decoder.crank = .cycleSync ∧ (s.meters.get .b).strayCount = 4) :=
  ⟨⟨(synced 5 1000).modMeter .a fun m => { m with missing := 3 }, by decide⟩,
    ⟨(synced 5 1000).modMeter .b fun m => { m with strayCount := 4 }, by decide⟩⟩

theorem witness_EdgeAssignment :
    ((State.reset.meters.a).assign .a .front 880 = some .e0 ∧ (State.reset.meters.a).distance .a .front 880 .e0 = 180) ∧
      ((State.reset.meters.a).assign .a .front 881 = none ∧ (State.reset.meters.a).distance .a .front 881 .e0 = 181) ∧
      ((State.reset.meters.a).assign .a .front 1780 = some .e1 ∧
          (State.reset.meters.a).distance .a .front 1780 .e2 = -180) :=
  ⟨by decide,
    by decide,
    by decide⟩

theorem witness_EdgeMeasured :
    (∃ s : State, (s.meters.get .a).assign .a s.straps.role 881 = none) ∧
      (∃ s : State, (s.meters.get .a).assign .a s.straps.role 880 = some .e0 ∧
          ((s.meters.get .a).ring.get .e0).valid = true) ∧
      (∃ s : State, (s.meters.get .b).assign .b s.straps.role 880 = some .e0 ∧
          ((s.meters.get .b).ring.get .e0).valid = false) ∧
      (∃ s : State, s.decoder.tooth = some 27 ∧ s.decoder.lastEdge = some 50000 ∧ s.decoder.pRef = some 1000) ∧
      (∃ s : State, s.decoder.crank = .stopped ∨ s.decoder.crank = .gapSeek) ∧
      (∃ s : State, s.decoder.crank = .revSync ∧ s.decoder.prevCam.get .a = some 1241 ∧
          ((s.decoder.revAngle 52001 : Int) - 1241) % 3600 = 599) ∧
      (∃ s : State, s.decoder.crank = .revSync ∧ s.decoder.prevCam.get .a = some 1240 ∧
          ((s.decoder.revAngle 52001 : Int) - 1240) % 3600 = 600) ∧
      (∃ s : State, s.decoder.crank = .cycleSync ∧ s.decoder.half = some .one ∧ s.straps.role = .front ∧
          s.decoder.prevCam.get .a = some 1241 ∧ ((s.decoder.revAngle 52001 : Int) - 1241) % 3600 = 599) ∧
      (∃ s : State, s.decoder.crank = .cycleSync ∧ s.decoder.half = some .zero ∧ s.straps.role = .front ∧
          s.decoder.prevCam.get .a = some 1241 ∧ ((s.decoder.revAngle 52001 : Int) - 1241) % 3600 = 599) :=
  ⟨⟨State.reset, by decide⟩,
    ⟨State.reset.modMeter .a fun m => { m with ring := m.ring.set .e0 ⟨0, 5, true⟩ }, by decide⟩,
    ⟨State.reset, by decide⟩,
    ⟨synced 27 1000, by decide⟩,
    ⟨State.reset, by decide⟩,
    ⟨(synced 15 6000).modDecoder fun d => { d with crank := .revSync, half := none, prevCam := ⟨some 1241, none⟩ }, by decide⟩,
    ⟨(synced 15 6000).modDecoder fun d => { d with crank := .revSync, half := none, prevCam := ⟨some 1240, none⟩ }, by decide⟩,
    ⟨(synced 15 6000).modDecoder fun d => { d with prevCam := ⟨some 1241, none⟩ }, by decide⟩,
    ⟨(synced 15 6000).modDecoder fun d => { d with half := some .zero, prevCam := ⟨some 1241, none⟩ }, by decide⟩⟩

/-- A state at the start of cycle 40 in which the five records of channel A are valid and hold the same raw deviation. -/
def taught (raw : Int) (offset : Option Int) : State :=
  let r : RingRecord := ⟨39, raw, true⟩
  { State.reset with
    decoder := { (synced 0 1000).decoder with cycleNumber := 40 }
    meters :=
      { State.reset.meters with
        a := { State.reset.meters.a with parkWatch := true, parkOffset := offset, ring := ⟨r, r, r, r, r⟩ } } }

def Teaches (s : State) (mean : Int) : Prop :=
  (s.meters.get .a).parkWatch = true ∧ s.channelState .a = .parked ∧ (s.meters.get .a).strayCount = 0 ∧
    (∀ k, ((s.meters.get .a).ring.get k).valid = true ∧
        ((s.meters.get .a).ring.get k).cycle = s.decoder.cycleNumber - 1) ∧
      ((s.meters.get .a).ring.e0.raw + (s.meters.get .a).ring.e1.raw + (s.meters.get .a).ring.e2.raw +
          (s.meters.get .a).ring.e3.raw + (s.meters.get .a).ring.e4.raw).tdiv 5 = mean

theorem witness_ParkLearning :
    Teaches (taught 100 none) 100 ∧ Teaches (taught 101 none) 101 ∧ Teaches (taught (-100) (some 7)) (-100) ∧
      ¬Teaches State.reset 0 :=
  ⟨⟨by decide, by decide, by decide, by intro k; cases k <;> decide, by decide⟩,
    ⟨by decide, by decide, by decide, by intro k; cases k <;> decide, by decide⟩,
    ⟨by decide, by decide, by decide, by intro k; cases k <;> decide, by decide⟩, fun h => by cases h.1⟩

/-- An idle line: frames of other stations can be received. -/
def idleLine : State := State.reset.modLink fun l => { l with gapCount := 11 }

theorem idleLine_hears : Hears idleLine := ⟨by decide, by decide, by decide⟩

/-- The same in a state that is given. -/
def onIdleLine (s : State) : State := { s with link := idleLine.link }

theorem witness_TargetFrameTaken :
    (∃ (h : Header) (s : State), Hears s ∧ h.source ≠ s.straps.address ∧ h.addressed = true ∧
        h.dest = s.straps.address) ∧
      (∃ (h : Header) (s : State), Hears s ∧ h.source ≠ s.straps.address ∧ h.addressed = false) ∧
      (∃ (h : Header) (s : State), Hears s ∧ h.source ≠ s.straps.address ∧ h.addressed = true ∧
          h.dest ≠ s.straps.address) :=
  ⟨⟨⟨7, true, 0⟩, idleLine, idleLine_hears, by decide⟩,
    ⟨⟨7, false, 0⟩, idleLine, idleLine_hears, by decide⟩,
    ⟨⟨7, true, 1⟩, idleLine, idleLine_hears, by decide⟩⟩

theorem witness_TransferAndGuard :
    (State.reset.target.pendingSlot = none) ∧
      (∃ (r : Request) (t : TargetUnit), t.pendingSlot = some r ∧ r.mode = .track) :=
  ⟨rfl,
    ⟨⟨.track, 500, 201⟩, { State.reset.target with pendingSlot := some ⟨.track, 500, 201⟩ }, by decide⟩⟩

theorem witness_StalePairParks :
    (∃ s : State, s.supplyLow = false ∧ s.decoder.crank = .cycleSync ∧
        (s.target.transfer s.store.params).mode = .track ∧
        min 255 ((s.target.transfer s.store.params).age + 1) = s.store.params.freshness + 1) ∧
      (∃ s : State, (s.target.transfer s.store.params).mode = .track ∧
          min 255 ((s.target.transfer s.store.params).age + 1) = s.store.params.freshness) ∧
      (∃ s : State, s.target.mode = .track ∧ (s.target.transfer s.store.params).mode = .park) :=
  ⟨⟨{ synced 0 1000 with target := { State.reset.target with mode := .track, age := 4 } }, by decide⟩,
    ⟨{ synced 0 1000 with target := { State.reset.target with mode := .track, age := 3 } }, by decide⟩,
    ⟨{ synced 0 1000 with target := { State.reset.target with mode := .track, age := 4, pendingSlot := some ⟨.park, 0, 0⟩ } },
      by decide⟩⟩

/-- A state with channel A in TRACKING, the two active targets given, and no step of oil. -/
def tracking (active effective : Int) : State :=
  { synced 5 1000 with
    sequencers := { State.reset.sequencers with a := { State.reset.sequencers.a with state := .tracking } }
    target := { State.reset.target with mode := .track, active := ⟨active, 0⟩, effective := ⟨effective, 0⟩ } }

/-- A state in which channel A may start a release, with its active target and its attempts given. -/
def releasable (active : Int) (attempts : Nat) : State :=
  { synced 5 1000 with
    store := { State.reset.store with windowOpen := false }
    engine := { engine := .running, age := 8, parkRequest := false, parkPin := .low }
    oil := { State.reset.oil with ready := true }
    meters := { State.reset.meters with a := { State.reset.meters.a with parkOffset := some 0 } }
    target := { State.reset.target with mode := .track, active := ⟨active, 0⟩ }
    sequencers := { State.reset.sequencers with a := { State.reset.sequencers.a with attempts := attempts } } }

theorem witness_RampAndTargetAtPark :
    (∃ s : State, s.channelState .a = .tracking ∧ s.target.active.get .a = 29 ∧ s.rampedTarget .a = 29) ∧
      (∃ s : State, s.channelState .a = .tracking ∧ s.target.active.get .a = 30 ∧ s.rampedTarget .a = 29) ∧
      (∃ s : State, s.channelState .a = .parked ∧ s.mayRelease .a = true ∧ s.target.active.get .a = 30) ∧
      (∃ s : State, s.channelState .a = .parked ∧ s.mayRelease .a = false ∧ s.target.active.get .a = 29) ∧
      (∃ s : State, s.channelState .a = .parked ∧ s.mayRelease .a = false ∧ (s.sequencers.get .a).attempts = 0) :=
  ⟨⟨tracking 29 29, by decide⟩,
    ⟨tracking 30 29, by decide⟩,
    ⟨releasable 30 1, by decide⟩,
    ⟨releasable 29 1, by decide⟩,
    ⟨releasable 30 0, by decide⟩⟩

theorem witness_OilConditionsChange :
    (∃ (p : Int) (s : State), s.supplyLow = false ∧ s.decoder.crank = .cycleSync ∧ s.sense.pressure = some p ∧
        s.faults.station.oilpSensor = false ∧ (s.store.params.releasePressure : Int) = p ∧ s.oil.readyRun = 2) ∧
      (∃ (p : Int) (s : State), s.supplyLow = false ∧ s.decoder.crank = .cycleSync ∧ s.sense.pressure = some p ∧
          s.faults.station.oilpSensor = false ∧ p + 1 = (s.store.params.lowOilPressure : Int) ∧ s.oil.lowRun = 1 ∧
          s.oil.low = false) ∧
      (∃ s : State, s.sense.pressure = none) ∧
      (∃ s : State, s.supplyLow = false ∧ s.decoder.crank = .cycleSync ∧ ∃ e ∈ s.oil.peers, e.address = 2 ∧ 16 ≤ e.age) :=
  ⟨⟨150, { synced 0 1000 with sense := { State.reset.sense with pressure := some 150 }, oil := { State.reset.oil with readyRun := 2 } }, by decide⟩,
    ⟨59, { synced 0 1000 with sense := { State.reset.sense with pressure := some 59 }, oil := { State.reset.oil with lowRun := 1 } }, by decide⟩,
    ⟨State.reset, by decide⟩,
    ⟨{ synced 0 1000 with oil := { State.reset.oil with peers := [⟨2, 18, 16⟩] } }, by decide⟩⟩

theorem witness_BudgetComputed :
    (∃ (p : Int) (s : State), s.sense.pressure = some p) :=
  ⟨230, { State.reset with sense := { State.reset.sense with pressure := some 230 } }, by decide⟩

theorem witness_StatusFrameTaken :
    ∃ (h : Header) (s : State), Hears s ∧ h.source ≠ s.straps.address ∧
      (h.addressed = false ∨ h.dest = s.straps.address) ∧ PeerTableSound s :=
  ⟨⟨2, false, 0⟩, { idleLine with oil := { State.reset.oil with peers := [⟨2, 18, 0⟩, ⟨5, 7, 5⟩] } },
    ⟨by decide, by decide, by decide⟩, by decide, by decide,
    by
      refine ⟨by decide, ?_⟩
      intro e h
      fin_cases h <;> decide⟩

theorem witness_StateChangeEffects :
    (∃ s : State, s.channelState .a = .tracking ∧ ChannelState.returning ≠ .tracking ∧
        (s.channelState .a).running = true) ∧
      (∃ s : State, s.channelState .a = .parked ∧ ChannelState.releasing ≠ .parked ∧
          (s.channelState .a).running = false) ∧
      (∃ s : State, s.channelState .a = .releasing ∧ (s.channelState .a).running = true ∧ s.decoder.crank ≠ .cycleSync) :=
  ⟨⟨tracking 100 90, by decide⟩,
    ⟨State.reset, by decide⟩,
    ⟨State.reset.modSequencer .a fun q => { q with state := .releasing }, by decide⟩⟩

theorem witness_EngineStateCommands :
    (∃ (h : Header) (s : State), Hears s ∧ h.source ≠ s.straps.address ∧
        (h.addressed = false ∨ h.dest = s.straps.address)) ∧
      (∃ s : State, s.supplyLow = false ∧ s.decoder.crank = .cycleSync ∧ s.engine.engine = .running ∧
          s.engine.age = 8) :=
  ⟨⟨⟨7, false, 0⟩, idleLine, idleLine_hears, by decide⟩,
    ⟨{ synced 0 1000 with engine := { State.reset.engine with engine := .running, age := 8 } }, by decide⟩⟩

theorem witness_ParkPinCommands :
    (∃ s : State, s.supplyLow = false ∧ s.engine.parkPin = .high ∧ s.timers.park = none) ∧
      (∃ s : State, s.supplyLow = false ∧ s.engine.parkPin = .low ∧ s.timers.park = some 9999) ∧
      (∃ s : State, s.supplyLow = false ∧ s.engine.parkPin = .high ∧ s.timers.park = some 10000) :=
  ⟨⟨State.reset, by decide⟩,
    ⟨{ State.reset with engine := { State.reset.engine with parkPin := .low }, timers := { State.reset.timers with park := some 9999 } }, by decide⟩,
    ⟨{ State.reset with engine := { State.reset.engine with parkRequest := false }, timers := { State.reset.timers with park := some 10000 } }, by decide⟩⟩

/-- A state in CYCLE_SYNC with channel A's sequencer as given. -/
def inState (q : Sequencer) : State :=
  { synced 5 1000 with
    sequencers := { State.reset.sequencers with a := q }
    meters := { State.reset.meters with a := { State.reset.meters.a with estimate := some 30 } } }

theorem witness_ReleaseSucceeds :
    (∃ s : State, s.supplyLow = false ∧ s.channelState .a = .releasing ∧ (s.meters.get .a).estimate = some 30 ∧
        (s.sequencers.get .a).successRun = 1) :=
  ⟨inState ⟨.releasing, 3, 0, 2, 1, 0, 0⟩, by decide⟩

theorem witness_ReleaseTimeoutAndHold :
    (∃ s : State, s.supplyLow = false ∧ s.decoder.crank = .cycleSync ∧ s.channelState .a = .releasing ∧
        (s.sequencers.get .a).releaseCount = 7 ∧ (s.sequencers.get .a).attempts = 2) ∧
      (∃ s : State, s.supplyLow = false ∧ s.decoder.crank = .cycleSync ∧ s.channelState .a = .releasing ∧
          (s.sequencers.get .a).releaseCount = 7 ∧ (s.sequencers.get .a).attempts = 1) ∧
      (∃ s : State, s.supplyLow = false ∧ s.decoder.crank = .cycleSync ∧ s.channelState .a = .parked ∧
          (s.sequencers.get .a).retryHold = 1) ∧
      (∃ s : State, s.channelState .a = .releasing ∧ (s.sequencers.get .a).releaseCount = 6) ∧
      (∃ s : State, s.channelState .a = .returning ∧ (s.sequencers.get .a).returnCount = 58) ∧
      (∃ s : State, s.channelState .a = .returning ∧ (s.sequencers.get .a).returnCount = 59) ∧
      (∃ s : State, s.channelState .a = .fault) :=
  ⟨⟨inState ⟨.releasing, 2, 0, 7, 0, 0, 0⟩, by decide⟩,
    ⟨inState ⟨.releasing, 1, 0, 7, 0, 0, 0⟩, by decide⟩,
    ⟨inState ⟨.parked, 2, 1, 8, 0, 0, 0⟩, by decide⟩,
    ⟨inState ⟨.releasing, 2, 0, 6, 0, 0, 0⟩, by decide⟩,
    ⟨inState ⟨.returning, 2, 0, 6, 0, 58, 0⟩, by decide⟩,
    ⟨inState ⟨.returning, 2, 0, 6, 0, 59, 0⟩, by decide⟩,
    ⟨inState ⟨.fault, 2, 0, 6, 0, 59, 0⟩, by decide⟩⟩

theorem witness_ReturnEnds :
    (∃ (phase : Int) (s : State), s.supplyLow = false ∧ s.channelState .a = .returning ∧
        (s.meters.get .a).estimate = some phase ∧ phase = 20 ∧ (s.sequencers.get .a).returnRun = 2) ∧
      (∃ (phase : Int) (s : State), s.supplyLow = false ∧ s.channelState .a = .returning ∧
          (s.meters.get .a).estimate = some phase ∧ phase = -20 ∧ (s.sequencers.get .a).returnRun = 2) ∧
      (∃ s : State, s.supplyLow = false ∧ s.channelState .a = .returning ∧ s.decoder.crank = .cycleSync ∧
          (s.sequencers.get .a).returnCount = 59) :=
  ⟨⟨20, (inState ⟨.returning, 3, 0, 0, 0, 9, 2⟩).modMeter .a fun m => { m with estimate := some 20 }, by decide⟩,
    ⟨-20, (inState ⟨.returning, 3, 0, 0, 0, 9, 2⟩).modMeter .a fun m => { m with estimate := some (-20) }, by decide⟩,
    ⟨inState ⟨.returning, 3, 0, 0, 0, 59, 0⟩, by decide⟩⟩

theorem witness_NullTransferAndTrackError :
    (∃ s : State, s.supplyLow = false ∧ s.channelState .a = .tracking ∧ (s.controllers.get .a).lastError = some 5 ∧
        s.target.effective.get .a = s.target.active.get .a ∧ s.store.params.holdWindow = 5 ∧
        (s.controllers.get .a).stationary = 39) ∧
      (∃ s : State, s.supplyLow = false ∧ s.channelState .a = .tracking ∧
          (s.controllers.get .a).lastError = some (-101) ∧ (s.controllers.get .a).trackErrors = 39) :=
  ⟨⟨(tracking 100 100).modController .a fun c => { c with lastError := some 5, stationary := 39, integrator := 64 }, by decide⟩,
    ⟨(tracking 100 100).modController .a fun c => { c with lastError := some (-101), trackErrors := 39 }, by decide⟩⟩

theorem witness_ControlUpdateResult :
    (∃ s : State, s.target.effective.get .a = s.target.active.get .a ∧
        (limit (-1000) 1000 (s.target.effective.get .a - 95)).natAbs = s.store.params.holdWindow ∧
        (s.controllers.get .a).stationary = 38) ∧
      (∃ s : State, s.target.effective.get .a = s.target.active.get .a ∧
          (limit (-1000) 1000 (s.target.effective.get .a - 95)).natAbs = s.store.params.holdWindow ∧
          (s.controllers.get .a).stationary = 39) ∧
      (∃ s : State, (limit (-1000) 1000 (s.target.effective.get .a - (-1))).natAbs = 101 ∧
          (s.controllers.get .a).trackErrors = 39) ∧
      (∃ s : State, (limit (-1000) 1000 (s.target.effective.get .a - 0)).natAbs = 100 ∧
          (s.controllers.get .a).trackErrors = 39) :=
  ⟨⟨(tracking 100 100).modController .a fun c => { c with stationary := 38 }, by decide⟩,
    ⟨(tracking 100 100).modController .a fun c => { c with stationary := 39 }, by decide⟩,
    ⟨(tracking 100 100).modController .a fun c => { c with trackErrors := 39 }, by decide⟩,
    ⟨(tracking 100 100).modController .a fun c => { c with trackErrors := 39 }, by decide⟩⟩

theorem witness_PwmPeriod :
    (∃ s : State, s.supplyLow = false ∧ s.timers.pwm = 2499 ∧ s.timers.periodsOwed.get .a = 0 ∧
        ((s.drivers.get .a).output = false ∨ 2500 ≤ (s.drivers.get .a).onTime)) ∧
      (∃ s : State, s.supplyLow = false ∧ s.timers.pwm = 0 ∧ s.timers.periodsOwed.get .a = 1) ∧
      (∃ s : State, s.supplyLow = false ∧ s.timers.pwm < 2500 ∧ (s.drivers.get .a).output = true ∧
          (s.drivers.get .a).onTime = 2500) ∧
      (∃ s : State, s.supplyLow = false ∧ s.timers.pwm < 2500 ∧ (s.drivers.get .a).output = true ∧
          (s.drivers.get .a).onTime = 2497) :=
  ⟨⟨{ State.reset with timers := { State.reset.timers with pwm := 2499 } }, by decide⟩,
    ⟨{ State.reset with timers := { State.reset.timers with periodsOwed := ⟨1, 0⟩ } }, by decide⟩,
    ⟨State.reset.modDriver .a fun d => { d with duty := 1000, output := true, onTime := 2500 }, by decide⟩,
    ⟨State.reset.modDriver .a fun d => { d with duty := 999, output := true, onTime := 2497 }, by decide⟩⟩

/-- Channel A's output on, for the time given, at the place given of a period with the on-time given. -/
def driving (sinceOn pwm onTime : Nat) : State :=
  { State.reset.modDriver .a fun d => { d with output := true, onTime := onTime } with
    timers := { State.reset.timers with pwm := pwm, sinceOn := ⟨sinceOn, 0⟩ } }

theorem witness_OvercurrentTrip :
    (∃ (i : Nat) (s : State), s.supplyLow = false ∧ s.comparatorRun .a = some 80 ∧ (s.drivers.get .a).onTime = 81 ∧
        i = s.store.params.overcurrent + 1) ∧
      (∃ s : State, s.supplyLow = false ∧ s.comparatorRun .a = none ∧ (s.drivers.get .a).onTime = 80) ∧
      (∃ s : State, s.supplyLow = false ∧ s.comparatorRun .a = some 0 ∧ (s.drivers.get .a).onTime = 80) ∧
      (∃ s : State, s.supplyLow = false ∧ s.comparatorRun .a = some 1 ∧ s.timers.pwm = 2499) ∧
      (∃ s : State, s.supplyLow = false ∧ s.comparatorRun .a = none ∧ s.timers.pwm = 2499) ∧
      (∃ (i : Nat) (s : State), s.supplyLow = false ∧ i = s.store.params.overcurrent) :=
  ⟨⟨2001, driving 0 0 81, by decide⟩,
    ⟨driving 0 0 80, by decide⟩,
    ⟨driving 80 0 80, by decide⟩,
    ⟨driving 79 2499 2500, by decide⟩,
    ⟨driving 78 2499 2500, by decide⟩,
    ⟨2000, State.reset, by decide⟩⟩

/-- Channel A commanded 200 mA, with three low samples counted and a fourth of 24 mA held. -/
def lowCoil : State :=
  ((State.reset.modController .a fun c => { c with command := 200 }).modDriver .a fun d => { d with openRun := 3 }).modSense
    fun n => { n with currents := ⟨some 24, none⟩ }

theorem witness_OpenCoilCommands :
    (∃ s : State, s.supplyLow = false ∧ 200 = s.command .a ∧ s.driverCut .a = false ∧
        s.timers.blanking.get .a = none ∧ s.sense.currents.get .a = some 24 ∧ 24 + 1 = s.command .a / 8 ∧
        (s.drivers.get .a).openRun = 3 ∧ s.slotDue .ia = true ∧ s.slotDue .ib = false) ∧
      (∃ s : State, s.supplyLow = false ∧ s.timers.blanking.get .a = some 10000) :=
  ⟨⟨lowCoil, by decide⟩,
    ⟨{ State.reset with timers := { State.reset.timers with blanking := ⟨some 10000, none⟩ } }, by decide⟩⟩

/-- The conditions of a resistance trim of channel A (R122). -/
def Able (s : State) (v : Int) (i : Nat) : Prop :=
  s.sense.supply = some v ∧ s.sense.currents.get .a = some i ∧ s.channelState .a = .tracking ∧
    100 ≤ (s.drivers.get .a).duty ∧ (s.drivers.get .a).duty ≤ 900 ∧ 100 ≤ i

def trimmable (duty current : Nat) : State :=
  ((tracking 100 100).modDriver .a fun d => { d with duty := duty }).modSense fun n =>
    { n with supply := some 13500, currents := ⟨some current, none⟩ }

theorem witness_ResistanceTrim :
    Able (trimmable 100 100) 13500 100 ∧ Able (trimmable 900 100) 13500 100 ∧ ∀ v i, ¬Able (trimmable 901 100) v i :=
  ⟨⟨by decide, by decide, by decide, by decide, by decide, by decide⟩,
    ⟨by decide, by decide, by decide, by decide, by decide, by decide⟩, fun _ _ h => absurd h.2.2.2.2.1 (by decide)⟩

/-- A state in the slot given, with a number of completions owed. -/
def inSlot (index owed : Nat) : State :=
  { State.reset with timers := { State.reset.timers with slotIndex := index, slot := ⟨0, owed⟩ } }

theorem witness_OilPressureSamples :
    (∃ (code : Code12) (s : State), s.supplyLow = false ∧ s.slotDue .oilp = true ∧ 205 = code.toNat) ∧
      (∃ (code : Code12) (s : State), s.supplyLow = false ∧ s.slotDue .oilp = true ∧ 3890 + 1 = code.toNat ∧
          s.sense.rangeRun = 6) ∧
      (∃ (code : Code12) (s : State), s.supplyLow = false ∧ s.slotDue .oilp = true ∧ code.toNat + 1 = 205 ∧
          s.sense.rangeRun = 7) ∧
      (∃ s : State, s.supplyLow = false ∧ s.slotDue .oilp = false) :=
  ⟨⟨205, inSlot 2 0, by decide⟩,
    ⟨3891, (inSlot 9 0).modSense fun n => { n with rangeRun := 6 }, by decide⟩,
    ⟨204, (inSlot 1 2).modSense fun n => { n with rangeRun := 7 }, by decide⟩,
    ⟨State.reset, by decide⟩⟩

theorem witness_SupplyAndTemperatureSamples :
    (∃ (code : Code12) (s : State), s.supplyLow = false ∧ s.slotDue .vsup = true ∧
        ((code.toNat : Int) * 20000).tdiv 4096 = 6997 ∧ s.sense.supply = none ∧ s.conditions.underVoltage = false) ∧
      (∃ (code : Code12) (s : State), s.supplyLow = false ∧ s.slotDue .tdie = true ∧
          ((code.toNat : Int) * 250).tdiv 4096 - 50 = 170 ∧ s.sense.temperature = none ∧
          s.conditions.thermalCut = false) ∧
      (∃ s : State, s.supplyLow = false ∧ s.slotDue .vsup = false ∧ s.slotDue .tdie = false) ∧
      (∃ s : State, s.supplyLow = false ∧ s.slotDue .vsup = true ∧ s.driverCut .a = false ∧
          (s.drivers.get .a).output = true ∧
          (dutyOf (s.command .a) (s.drivers.get .a).rEst false (some 13500)).1 = 333) :=
  ⟨⟨1433, inSlot 5 0, by decide⟩,
    ⟨3605, inSlot 8 0, by decide⟩,
    ⟨State.reset, by decide⟩,
    ⟨((inSlot 5 0).modController .a fun c => { c with command := 600 }).modDriver .a fun d => { d with output := true },
      by decide⟩⟩

theorem witness_FaultLatch :
    (∃ s : State, (s.faults.channel.get .a).has .openCoil = false ∧ s.faults.station.has .oilpSensor = false) ∧
      (∃ s : State, (s.faults.channel.get .a).has .openCoil = true ∧ s.faults.station.has .oilpSensor = true) :=
  ⟨⟨State.reset, by decide⟩,
    ⟨{ State.reset with faults := ⟨⟨ChannelFaults.empty.add .openCoil, ChannelFaults.empty⟩, StationFaults.empty.add .oilpSensor⟩ }, by decide⟩⟩

theorem witness_ClearFrameTaken :
    (∃ (h : Header) (w : Word16) (s : State), Hears s ∧ h.source ≠ s.straps.address ∧
        (h.addressed = false ∨ h.dest = s.straps.address) ∧ w.toNat % 4 = 3 ∧ w.getLsbD 15 = true ∧
        (s.channelState .a = .parked ∨ s.channelState .a = .fault)) ∧
      (∃ (h : Header) (w : Word16) (s : State), Hears s ∧ h.source ≠ s.straps.address ∧
          (h.addressed = false ∨ h.dest = s.straps.address) ∧ w.toNat % 4 = 1 ∧ w.getLsbD 15 = false ∧
          s.channelState .a = .fault) ∧
      (∃ (h : Header) (w : Word16) (s : State), Hears s ∧ h.source ≠ s.straps.address ∧
          (h.addressed = false ∨ h.dest = s.straps.address) ∧ w.toNat % 4 = 0) :=
  ⟨⟨⟨7, false, 0⟩, 0x8003, idleLine, idleLine_hears, by decide⟩,
    ⟨⟨7, true, 0⟩, 0x0001, onIdleLine (inState ⟨.fault, 0, 2, 8, 0, 0, 0⟩), ⟨by decide, by decide, by decide⟩, by decide⟩,
    ⟨⟨7, true, 0⟩, 0, idleLine, idleLine_hears, by decide⟩⟩

theorem witness_ConfigAndClose :
    (∃ (h : Header) (id : Word16) (s : State), Hears s ∧ h.source ≠ s.straps.address ∧
        (h.addressed = true ∧ h.dest = s.straps.address) ∧ s.store.windowOpen = true ∧
        paramRange id.toNat = some (200, 1500)) ∧
      (∃ (h : Header) (id : Word16) (s : State), Hears s ∧ h.source ≠ s.straps.address ∧ 20 = id.toNat) ∧
      (∃ (h : Header) (s : State), Hears s ∧ h.source ≠ s.straps.address ∧
          ¬(h.addressed = true ∧ h.dest = s.straps.address)) :=
  ⟨⟨⟨7, true, 0⟩, 19, idleLine, idleLine_hears, by decide⟩,
    ⟨⟨7, true, 0⟩, 20, idleLine, idleLine_hears, by decide⟩,
    ⟨⟨7, true, 1⟩, idleLine, idleLine_hears, by decide⟩⟩

theorem witness_RestartTaken :
    (∃ (h : Header) (s : State), Hears s ∧ h.source ≠ s.straps.address ∧ h.addressed = true ∧
        h.dest = s.straps.address ∧ s.decoder.crank = .stopped ∧ s.channelState .a = .parked ∧
        s.channelState .b = .parked) ∧
      (∃ (h : Header) (s : State), Hears s ∧ h.source ≠ s.straps.address ∧ s.decoder.crank ≠ .stopped) :=
  ⟨⟨⟨7, true, 0⟩, idleLine, idleLine_hears, by decide⟩,
    ⟨⟨7, true, 0⟩, onIdleLine (seeking none), ⟨by decide, by decide, by decide⟩, by decide⟩⟩

theorem witness_FramesWithoutDelivery :
    (∃ (f : Frame) (s : State), Hears s ∧ f.header.source ≠ s.straps.address ∧ f.cls.toNat = 8) ∧
      (∃ (f : Frame) (s : State), Hears s ∧ f.header.source = s.straps.address) ∧
      (∃ s : State, ¬Hears s ∧ s.link.transmitter ≠ .free) ∧
      (∃ s : State, ¬Hears s ∧ s.link.reading = .no ∧ s.link.gapCount = 10) :=
  ⟨⟨⟨8, ⟨7, false, 0⟩, []⟩, idleLine, idleLine_hears, by decide⟩,
    ⟨⟨3, ⟨0, false, 0⟩, []⟩, idleLine, idleLine_hears, by decide⟩,
    ⟨{ State.reset with link := { State.reset.link with transmitter := .sending .status strayDest } },
      by unfold Hears; decide⟩,
    ⟨State.reset.modLink fun l => { l with gapCount := 10 }, by unfold Hears; decide⟩⟩

/-- The bits of a CLOSE frame, with one of them turned. -/
def turned (bit : Nat) : List Bool :=
  let bits := ({ cls := 6, header := ⟨1, true, 3⟩, payload := [] } : Frame).lineBits
  bits.set bit (!(bits.getD bit true))

theorem witness_DiscardedFrames :
    (∃ (bits : List Bool) (s : State), judge bits = .aborted 9 ∧ Hears s ∧ s.link.reading = .frame ∧
        bits.head? = some false) ∧
      (∃ (bits : List Bool) (s : State), judge bits = .aborted 44 ∧ Hears s ∧ s.link.reading = .ownRemains) ∧
      (∃ (bits : List Bool) (s : State), judge bits = .aborted 17 ∧ Hears s ∧ s.link.reading = .ownRemains ∧
        bits.head? = some true) ∧
      (∃ (bits : List Bool) (s : State), bits.head? = some true ∧ Hears s ∧ s.link.reading = .no) ∧
      (∃ (bits : List Bool) (s : State), judge bits = .badCheck ∧ Hears s ∧ s.link.reading = .no ∧
        bits.head? = some false) ∧
      judge [] = .incomplete ∧ (∃ s : State, s.supplyLow = false ∧ s.link.discardRun = 2) ∧
      (∃ s : State, s.supplyLow = false ∧ s.link.linkErrors = true ∧ s.link.goodRun = 15) :=
  ⟨⟨turned 8, State.reset.modLink fun l => { l with reading := .frame }, by decide, ⟨by decide, by decide, by decide⟩, by decide, by decide⟩,
    ⟨turned 43, State.reset.modLink fun l => { l with reading := .ownRemains }, by decide, ⟨by decide, by decide, by decide⟩,
      by decide⟩,
    ⟨List.replicate 17 true, State.reset.modLink fun l => { l with reading := .ownRemains }, by decide,
      ⟨by decide, by decide, by decide⟩, by decide, rfl⟩,
    ⟨List.replicate 17 true, idleLine, rfl, idleLine_hears, by decide⟩,
    ⟨turned 7, idleLine, by decide +kernel, idleLine_hears, by decide, by decide⟩, rfl,
    ⟨State.reset.modLink fun l => { l with discardRun := 2 }, by decide⟩,
    ⟨State.reset.modLink fun l => { l with linkErrors := true, goodRun := 15 }, by decide⟩⟩

theorem witness_SendStart :
    (∃ s : State, s.supplyLow = false ∧ s.timers.bitPhase = 39 ∧
        (s.elapse ((40 - s.timers.bitPhase) % 40)).link.gapCount = 11 ∧ s.link.reading = .no ∧
        s.link.transmitter = .free ∧ s.link.busStuck = false ∧ s.link.silence = false ∧
        s.link.faultOrder ++ [SlotName.status] = [.faultStation, .faultA, .faultB] ++ .status :: [] ∧
        (s.link.slot .status).content = some strayDest ∧ (s.link.slot .status).onLine = false ∧
        (s.link.slot .faultStation).content = none ∧ (s.link.slot .faultA).content = none ∧
        (s.link.slot .faultB).content = none) ∧
      (∃ s : State, s.supplyLow = false ∧ (s.elapse ((40 - s.timers.bitPhase) % 40)).link.gapCount = 10) :=
  ⟨⟨{ State.reset with timers := { State.reset.timers with bitPhase := 39 }, link := { State.reset.link with gapCount := 11, status := ⟨some strayDest, false, 0⟩ } }, by decide⟩,
    ⟨State.reset.modLink fun l => { l with gapCount := 10 }, by decide⟩⟩

/-- The STATUS slot's frame on the line, with its failed attempts given. -/
def sending (attempts : Nat) : State :=
  State.reset.modLink fun l =>
    { l with
      transmitter := .sending .status strayDest, reading := .frame, status := ⟨some strayDest, true, attempts⟩ }

/-- R147, R151: a bit error in a spacer, in an end bit, or in the fourth length bit of a frame of eight words ends the frame read
at that bit; after one in the start bit or in a data bit the part reads on. -/
theorem test_bitError_reading :
    let after (f : Frame) (bit : Nat) : Reading :=
      (({ State.reset.link with transmitter := .sending .status f } : Link).failBit bit).reading;
    after strayDest 8 = .no ∧ after strayDest 43 = .no ∧ after longest 16 = .no ∧ after strayDest 0 = .ownRemains ∧
      after strayDest 16 = .ownRemains ∧ after strayDest 10 = .ownRemains := by
  decide +kernel

theorem witness_TransmissionEndsEarly :
    (∃ s : State, s.supplyLow = false ∧ s.link.transmitter = .sending .status strayDest ∧
        strayDest.lineBits.getD 7 false = true) ∧
      (∃ s : State, s.supplyLow = false ∧ s.link.transmitter = .sending .status strayDest ∧
          strayDest.lineBits.getD 6 false = false) ∧
      (∃ s : State, s.supplyLow = false ∧ s.link.transmitter = .sending .status strayDest ∧
          8 < strayDest.lineBits.length ∧ (s.link.slot .status).attempts = 6) ∧
      (∃ s : State, s.supplyLow = false ∧ s.link.transmitter = .sending .status strayDest ∧
          0 < strayDest.lineBits.length ∧ strayDest.lineBits.getD 0 true = false ∧
          (s.link.slot .status).attempts = 7) :=
  ⟨⟨sending 0, by decide⟩,
    ⟨sending 0, by decide⟩,
    ⟨sending 6, by decide⟩,
    ⟨sending 7, by decide⟩⟩

theorem witness_TransmissionCompletes :
    (∃ s : State, s.supplyLow = false ∧ s.link.transmitter = .sending .status strayDest ∧
        (s.link.slot .status).onLine = true) ∧
      (∃ s : State, s.supplyLow = false ∧ s.link.transmitter = .sending .status strayDest ∧
          (s.link.slot .status).onLine = false) :=
  ⟨⟨sending 0, by decide⟩,
    ⟨(sending 0).modLink fun l => { l with status := ⟨some crowded, false, 3⟩ }, by decide⟩⟩

theorem witness_LineReads :
    (∃ s : State, s.supplyLow = false ∧ s.link.transmitter = .free ∧ s.timers.bitPhase = 39 ∧ s.link.reading = .no ∧
        s.link.gapCount = 11 ∧ s.link.dominantRun = 0) ∧
      (∃ s : State, s.supplyLow = false ∧ s.link.transmitter = .free ∧ s.timers.bitPhase = 0 ∧ s.link.reading = .no ∧
          s.link.gapCount = 10 ∧ s.link.dominantRun = 39) ∧
      (∃ s : State, s.supplyLow = false ∧ s.link.transmitter = .free ∧ s.timers.bitPhase = 30 ∧
          s.link.reading = .frame ∧ s.link.dominantRun = 40) :=
  ⟨⟨{ idleLine with timers := { State.reset.timers with bitPhase := 39 } }, by decide⟩,
    ⟨{ State.reset.modLink fun l => { l with gapCount := 10, dominantRun := 39 } with
        timers := { State.reset.timers with bitPhase := 0 } }, by decide⟩,
    ⟨{ State.reset.modLink fun l => { l with reading := .frame, dominantRun := 40 } with
        timers := { State.reset.timers with bitPhase := 30 } }, by decide⟩⟩

theorem witness_TimerExpiries :
    (∃ s : State, s.supplyLow = false ∧ s.timers.status = some ⟨499999, 0⟩ ∧ s.timers.pulse = some 10000 ∧
        s.link.silence = false) ∧
      (∃ s : State, s.supplyLow = false ∧ s.timers.status = some ⟨0, 1⟩ ∧ s.timers.pulse = none ∧
          s.link.silence = true) ∧
      (∃ s : State, s.supplyLow = false ∧ s.timers.status = none) :=
  ⟨⟨{ State.reset with timers := { State.reset.timers with status := some ⟨499999, 0⟩, pulse := some 10000 } }, by decide⟩,
    ⟨{ State.reset.modLink fun l => { l with silence := true } with
        timers := { State.reset.timers with status := some ⟨0, 1⟩ } }, by decide⟩,
    ⟨{ State.reset with timers := { State.reset.timers with status := none } }, by decide⟩⟩

theorem witness_FramesBuiltAndLines :
    (∃ s : State, s.oil.ownClaim = 30 ∧ s.oil.budget = 60 ∧ s.straps.faultLine = .level ∧
        7 = s.store.params.st0Source ∧ 0 = s.store.params.st1Source) ∧
      (∃ s : State, s.straps.faultLine = .pulse ∧ s.timers.pulse = some 10000) :=
  ⟨⟨{ State.reset with oil := { State.reset.oil with ownClaim := 30, budget := 60 }, store := { State.reset.store with params := { Params.default with st0Source := 7, st1Source := 0 } } }, by decide⟩,
    ⟨{ State.reset with straps := { State.reset.straps with faultLine := .pulse }, timers := { State.reset.timers with pulse := some 10000 } }, by decide⟩⟩

/-- Counted bits, all dominant, whose length field is 8 or 0. -/
def longField : List Bool := List.replicate 12 false ++ true :: List.replicate 3 false

theorem witness_FrameRoundTrip :
    (∃ f : Frame, f.wellFormed = true ∧ f.payload.length = 8 ∧ f.header.addressed = false) ∧
      (∃ counted group : List Bool, counted.length = 8 * 1 ∧ group.length = 8 ∧
          ofBits (((counted ++ group).drop 12).take 4) = 8) ∧
      (∃ counted group : List Bool, counted.length = 8 * 1 ∧ group.length = 8 ∧
          ofBits (((counted ++ group).drop 12).take 4) = 9) ∧
      (∃ counted : List Bool, counted.length = 8 * 4 ∧ ofBits ((counted.drop 12).take 4) = 0) :=
  ⟨⟨⟨15, ⟨7, false, 0⟩, [1, 2, 3, 4, 5, 6, 7, 65535]⟩, by decide⟩,
    ⟨longField.take 8, longField.drop 8, by decide⟩,
    ⟨longField.take 8, [false, false, false, false, true, false, false, true], by decide⟩,
    ⟨List.replicate 32 false, by decide⟩⟩

/-! ### A running state that meets every rule of Safety.lean, and a step from it -/

/-- Channel A tracks and channel B stands in FAULT; the oil is ready; a STATUS frame waits; a VSUP sample waits to be taken. -/
def running : State :=
  { State.reset with
    pending := [.vsupSample 2765]
    timers :=
      { State.reset.timers with
        timeBase := 60000, pwm := 2499, slot := ⟨499, 0⟩, slotIndex := 5, status := none, blanking := ⟨some 10000, none⟩ }
    decoder := { (synced 27 1000).decoder with prevCam := ⟨some 3599, none⟩, lossCounter := 3, lossFreeRun := 255 }
    meters :=
      { a := { State.reset.meters.a with parkOffset := some 100, estimate := some 212, strayCount := 255 }
        b := { State.reset.meters.b with parkOffset := some (-100), missing := 4 } }
    target :=
      { State.reset.target with
        mode := .track, active := ⟨500, 200⟩, age := 1, effective := ⟨480, 0⟩, moveOpen := ⟨true, true⟩ }
    oil :=
      { State.reset.oil with
        ready := true, readyRun := 3, ownClaim := 30, demand := 48, budget := 60, step := 20
        peers := [⟨2, 30, 16⟩] }
    engine := { engine := .running, age := 1, parkRequest := false, parkPin := .low }
    sequencers := ⟨⟨.tracking, 3, 0, 2, 2, 0, 0⟩, ⟨.fault, 0, 2, 8, 0, 0, 0⟩⟩
    controllers :=
      { State.reset.controllers with
        a :=
          { State.reset.controllers.a with
            integrator := 300, learnedNull := 800, lastError := some 268, command := 600 } }
    drivers := ⟨{ State.reset.drivers.a with duty := 333, output := true, onTime := 832 }, State.reset.drivers.b⟩
    sense :=
      { State.reset.sense with
        currents := ⟨some 600, some 0⟩, pressure := some 230, supply := some 13500
        temperature := some 90 }
    link := { State.reset.link with gapCount := 11, status := ⟨some strayDest, false, 7⟩ }
    store := { State.reset.store with windowOpen := false }
    faults := ⟨⟨ChannelFaults.empty, ChannelFaults.empty.add .lockStuck⟩, StationFaults.empty⟩ }

theorem running_steps : step running = exec (.vsupSample 2765) { running with pending := [] } := rfl

theorem running_steps_next : ∃ t, step running = .next t := ⟨_, rfl⟩

theorem witness_FaultStateKept : FaultStateAgrees running := by intro ch; cases ch <;> decide

theorem witness_RunConditionsKept : RunConditionsHold running := by intro ch; cases ch <;> decide

theorem witness_CommandBoundKept : RunConditionsHold running ∧ CommandBounded running :=
  ⟨by intro ch; cases ch <;> decide, by intro ch; cases ch <;> decide⟩

theorem witness_OverlapBoundKept : RunConditionsHold running ∧ WindowSound running ∧ TargetsBounded running :=
  ⟨by intro ch; cases ch <;> decide, by (intro h; cases h), by decide, by decide, by decide, by intro ch; cases ch <;> decide⟩

theorem witness_ParametersKept : ParamsSound running := by
  refine ⟨?_, by decide⟩
  intro id lo hi h
  have hid : id < 20 := by
    by_contra hn
    have : paramRange id = none := by
      unfold paramRange
      split <;> first | omega | rfl
    simp_all
  interval_cases id <;> simp [paramRange] at h <;> obtain ⟨rfl, rfl⟩ := h <;> decide

theorem witness_IntegratorAndNullKept : ParamsSound running ∧ ControlBounded running :=
  ⟨witness_ParametersKept, by
    intro ch
    cases ch
    · refine ⟨by decide, by decide, by decide, by decide, ?_, by decide, by decide⟩
      intro e h
      cases h
      decide
    · refine ⟨by decide, by decide, by decide, by decide, ?_, by decide, by decide⟩
      intro e h
      cases h⟩

theorem witness_DriverRulesKept : DutyCurrent running ∧ ResistanceBounded running :=
  ⟨by intro ch; cases ch <;> decide, by intro ch; cases ch <;> decide⟩

theorem witness_PeerTableSound : PeerTableSound running := by
  refine ⟨by decide, ?_⟩
  intro e h
  rw [List.mem_singleton.1 h]
  decide

theorem witness_OilBudgetKept : ParamsSound running ∧ WindowSound running ∧ PeerTableSound running ∧ OilSound running :=
  ⟨witness_ParametersKept, by (intro h; cases h), witness_PeerTableSound, by unfold OilSound; decide⟩

theorem witness_DecoderItemsKept : DecoderSound running := by
  refine ⟨by decide, by decide, by decide, by decide, by decide, by decide, by decide, ?_, ?_, ?_, by decide, by decide⟩
  · intro i h; cases h; decide
  · intro ch r h; cases ch <;> cases h; decide
  · intro p h; cases h; decide

/-- A crank edge three ticks after the last accepted one, with a P_ref of 1. -/
theorem witness_DecoderItemsKept_apart :
    ∃ s : State, (∀ p, s.decoder.pRef = some p → 1 ≤ p) ∧ DecoderSound s ∧
      (∃ t, step s = .next t ∧ t.decoder.pRef = some 1) ∧
      ∀ c t0, s.filters.crank.candidate = some c → s.decoder.lastEdge = some t0 → 3 ≤ (c.stamp - t0).toNat := by
  refine ⟨{ State.reset with
      pending := [.filterTimeExpiry .crank []]
      filters := { State.reset.filters with crank := ⟨.high, some ⟨3, 40⟩⟩ }
      decoder :=
        { State.reset.decoder with crank := .gapSeek, lastEdge := some 0, pRef := some 1, stallRunning := true } },
    ?_, ⟨by decide, by decide, by decide, by decide, by decide, by decide, by decide, ?_, ?_, ?_, by decide, by decide⟩,
    ⟨_, rfl, by decide⟩, ?_⟩
  · intro p h; cases h; decide
  · intro i h; cases h
  · intro ch r h; cases ch <;> cases h
  · intro p h; cases h; decide
  · intro c t0 h h0; cases h; cases h0; decide

theorem witness_MeterItemsKept : MeterSound running := by
  intro ch
  cases ch
  · refine ⟨?_, by intro k; cases k <;> decide, by intro k; cases k <;> decide, ?_, by decide, by decide, by decide⟩
    · intro o h; cases h; decide
    · intro p h; cases h; decide
  · refine ⟨?_, by intro k; cases k <;> decide, by intro k; cases k <;> decide, ?_, by decide, by decide, by decide⟩
    · intro o h; cases h; decide
    · intro p h; cases h

theorem witness_TimersAndCountsKept : TimersSound running ∧ SequencerSound running ∧ SenseSound running := by
  refine ⟨⟨by decide, by decide, by decide, by decide, ?_, ?_, ?_, ?_, ?_, by decide, by decide⟩,
    ⟨by decide, by intro ch; cases ch <;> decide⟩, ⟨by decide, ?_, ?_, ?_, ?_⟩⟩
  · intro n h; cases h
  · intro ch; cases ch <;> decide
  · intro n h; cases h
  · intro n h; cases h
  · intro ch n h; cases ch <;> cases h; decide
  · intro ch i h; cases ch <;> cases h <;> decide
  · intro p h; cases h; decide
  · intro v h; cases h; decide
  · intro t h; cases h; decide


theorem witness_SendSlotsKept : LinkSound running := by
  refine ⟨by decide, by decide, by decide, by decide, .refl _, by intro k; cases k <;> decide, by intro k; cases k <;> decide, ?_, ?_, by (intro h; cases h)⟩
  · intro k h; cases k <;> cases h
  · intro k f h; cases h

end Sys2Proof.Tests
end

section
/-! PROOF. Rules about the state's operations that several obligations use: the command and the channel state of a channel that
stops driving, and the exits when no channel drives. -/

namespace Sys2Proof.Machine

/-! ### A channel that stops driving -/

/-- A command of 0 makes the duty 0, turns the output off and starts no blanking (R120, R121, R126). -/
theorem State.setCommand_zero (s : State) (ch : Channel) :
    s.setCommand ch 0 =
      { s with
        controllers := s.controllers.set ch { s.controllers.get ch with command := 0 }
        drivers := s.drivers.set ch { s.drivers.get ch with duty := 0, saturated := false, output := false } } := by
  simp [State.setCommand, State.computeDuty, State.modController, State.modDriver, State.command, dutyOf]

/-- Entry to PARKED, RETURNING or FAULT of a channel that does not leave PARKED: the command and the duty become 0, and a
channel that leaves TRACKING has its effective target at 0 (R49, R75). -/
theorem State.setChannelState_stops {s : State} {ch : Channel} {new : ChannelState} (hnew : new.running = false)
    (hold : s.channelState ch = .parked → new = .parked) :
    s.setChannelState ch new =
      { s with
        sequencers := s.sequencers.set ch { s.sequencers.get ch with state := new }
        controllers := s.controllers.set ch { s.controllers.get ch with command := 0 }
        drivers := s.drivers.set ch { s.drivers.get ch with duty := 0, saturated := false, output := false }
        target :=
          { s.target with
            effective :=
              s.target.effective.set ch
                (if s.channelState ch = .tracking then 0 else s.target.effective.get ch) } } := by
  have hpark : ¬(s.channelState ch = .parked ∧ new ≠ .parked) := fun h => h.2 (hold h.1)
  have htrack : new ≠ .tracking := by rintro rfl; cases hnew
  simp only [State.setChannelState, if_neg hpark, htrack, ne_eq, not_false_eq_true, and_true]
  cases new with
  | releasing => cases hnew
  | tracking => cases hnew
  | _ =>
    by_cases h : s.channelState ch = .tracking <;>
      simp [h, State.setCommand_zero, State.modSequencer, State.modTarget]

/-- "Oil low", "park commanded" and their like leave a part whose channels all stand still as it is (R77). -/
theorem State.returnRunning_of_none_runs {s : State} (h : ∀ ch, (s.channelState ch).running = false) :
    s.returnRunning = s := by
  simp [State.returnRunning, State.exitRunning, h]

end Sys2Proof.Machine
end

section
/-! PROOF. The step on an empty queue (O2), the state after reset (O4) and the input filters' commands (O5). -/

namespace Sys2Proof.Machine

/-! ### The passage of time -/

theorem step_of_nil {s : State} (h : s.pending = []) : step s = .next s.idle := by
  simp [step, h]

/-- Time that passes changes the timers and the link controller alone. -/
theorem State.elapse_eq_timers_link (s : State) (n : Nat) :
    s.elapse n = { s with timers := (s.elapse n).timers, link := (s.elapse n).link } := by
  simp only [State.elapse]; split <;> rfl

/-- The link controller reads the ticks that pass as recessive bits where it neither reads nor sends a frame (R145, R154). -/
theorem State.elapse_link_eq (s : State) (n : Nat) :
    (s.elapse n).link =
      if s.link.reading = .no ∧ s.link.transmitter = .free ∧ 0 < bitReads s.timers.bitPhase n then
        { s.link with
          gapCount := min 11 (s.link.gapCount + bitReads s.timers.bitPhase n)
          dominantRun := 0
          busStuck := s.link.busStuck && decide (s.link.gapCount + bitReads s.timers.bitPhase n < 11) }
      else s.link := by
  rw [State.elapse_link]
  have hq : s.link.quiet = true ↔ s.link.reading = .no ∧ s.link.transmitter = .free := by simp [Link.quiet]
  rcases Nat.eq_zero_or_pos (bitReads s.timers.bitPhase n) with h0 | hpos
  · simp [Link.recessiveReads, h0]
  · by_cases h : s.link.reading = .no ∧ s.link.transmitter = .free
    · rw [if_pos (hq.2 h), if_pos ⟨h.1, h.2, hpos⟩, Link.recessiveReads, if_neg hpos.ne']
    · rw [if_neg (mt hq.1 h), if_neg fun hh => h ⟨hh.1, hh.2.1⟩]

/-- Slot index and slot timer together count the ticks of a pass of ten slots (R134). -/
theorem Timers.advance_slot (t : Timers) (n : Nat) :
    (t.advance n).slotIndex ≤ 9 ∧ (t.advance n).slot.ticks < 500 ∧
      500 * (t.advance n).slotIndex + (t.advance n).slot.ticks = (500 * t.slotIndex + t.slot.ticks + n) % 5000 := by
  simp only [Timers.advance, Cyclic.advance]
  omega

/-- Settles O2: the passage of time item by item, and a step on an empty queue as its one tick. -/
theorem emptyQueueTick : Obligations.EmptyQueueTick := by
  intro s
  refine ⟨fun hq hs => ?_, fun hq hs => ?_, fun n => ?_⟩
  · simp [step_of_nil hq, State.idle, hs]
  · simp [step_of_nil hq, State.idle, hs]
  · have htimer : ∀ t : Option Nat,
        runTimer millisecond n t = match t with | none => none | some k => some (min 10000 (k + n)) := by
      intro t; cases t <;> rfl
    simp only [State.elapse_timers, State.elapse_link_eq s n]
    refine ⟨?_, rfl, rfl, rfl, rfl, rfl, rfl, fun _ _ => s.timers.advance_slot n, rfl, rfl, htimer _, htimer _,
      congrArg₂ Pair.mk (htimer _) (htimer _), fun h => ?_, fun c h => ?_⟩
    · rw [← State.elapse_timers, ← State.elapse_link_eq]
      exact s.elapse_eq_timers_link n
    · simp [Timers.advance, h]
    · simp [Timers.advance, Cyclic.advance, h]

/-! ### Reset -/

/-- Settles O4: each item of `State.reset` stands at the value of its table. -/
theorem resetTableValues : Obligations.ResetTableValues := by
  refine ⟨rfl, rfl, rfl, rfl, rfl, rfl, rfl, rfl, rfl, ?_, rfl, rfl, rfl, rfl, rfl, ?_, rfl, rfl, rfl, rfl, rfl, rfl,
    rfl, rfl, rfl, rfl⟩
  · rintro (_ | _) <;> exact ⟨rfl, by rintro (_ | _) <;> rfl, by rintro (_ | _) <;> rfl, rfl, rfl, rfl, rfl, rfl⟩
  · rintro (_ | _) <;> exact ⟨rfl, rfl, rfl, rfl, rfl, rfl, rfl, rfl⟩

/-! ### The input filters -/

section FilterCommands

variable {s : State} {pin : AnglePin}

theorem CrankState.synced_iff (c : CrankState) : c.synced = true ↔ c = .revSync ∨ c = .cycleSync := by
  cases c <;> simp [CrankState.synced]

/-- On an input with no open candidate, the opening lets the time up to the stamp pass and opens one (R2, R4). -/
theorem exec_filterCandidateOpen_of_none (hs : s.supplyLow = false) (hc : (s.filters.get pin).candidate = none)
    (stamp : Tick) :
    exec (.filterCandidateOpen pin stamp) s =
      .next ((s.elapseTo stamp).openCandidate pin stamp) := by
  simp [exec, execFilterCandidateOpen, act_of_live hs, hc]

/-- A glitch of the crank input closes the open candidate and nothing more (R3). -/
theorem exec_glitch_of_crank (hs : s.supplyLow = false) (hc : (s.filters.get pin).candidate.isSome = true)
    (hp : camChannel pin = none) : exec (.glitch pin) s = .next (s.closeCandidate pin) := by
  simp [exec, execGlitch, act_of_live hs, hc, hp]

/-- A glitch of a cam input closes the open candidate, and is counted where the decoder is synchronised (R3, R36). -/
theorem exec_glitch_of_cam (hs : s.supplyLow = false) (hc : (s.filters.get pin).candidate.isSome = true)
    {ch : Channel} (hp : camChannel pin = some ch) :
    exec (.glitch pin) s =
      .next
        (if s.decoder.crank.synced then (s.closeCandidate pin).modMeter ch Meter.countStray
        else s.closeCandidate pin) := by
  simp [exec, execGlitch, act_of_live hs, hc, hp]

/-- The expiry of an open candidate's filter time recognises the change, and delivers a falling one (R2). -/
theorem exec_filterTimeExpiry_of_open (hs : s.supplyLow = false) {c : Candidate}
    (hc : (s.filters.get pin).candidate = some c) (order : List CycleBlock) :
    exec (.filterTimeExpiry pin order) s =
      .next
        (let u := (s.elapse (c.filterTime - (s.timers.timeBase - c.stamp).toNat)).recognise pin
        if (s.filters.get pin).level = .high then u.deliverEdge pin c.stamp order else u) := by
  simp only [exec, execFilterTimeExpiry, act_of_live hs, hc, ticksLeft]
  cases hl : (s.filters.get pin).level <;> simp [State.recognise, hl, PinLevel.other]

/-- Where no candidate is open, there is no glitch and no expiry (log entry 5). -/
theorem exec_filter_of_none (hs : s.supplyLow = false) (hc : (s.filters.get pin).candidate = none)
    (order : List CycleBlock) :
    exec (.glitch pin) s = .next s ∧ exec (.filterTimeExpiry pin order) s = .next s := by
  simp [exec, execGlitch, execFilterTimeExpiry, act_of_live hs, hc]

end FilterCommands

/-- Settles O5, by the three commands' rules for an input with and without an open candidate. -/
theorem inputFilterCommands : Obligations.InputFilterCommands := by
  intro pin stamp order s
  refine ⟨⟨rfl, rfl, rfl⟩, fun hs => ⟨rfl, rfl, rfl, rfl, fun hc => ?_, fun c hc => ?_⟩⟩
  · refine ⟨?_, exec_filter_of_none hs hc order⟩
    rw [exec_filterCandidateOpen_of_none hs hc]
    simp [State.elapseTo, State.openCandidate]
  · refine ⟨?_, fun hp => ?_, fun ch hp => ?_, fun hl => ?_, fun hl => ?_⟩
    · simp [exec, execFilterCandidateOpen, act_of_live hs, hc]
    · rw [exec_glitch_of_crank hs (by simp [hc]) hp]; rfl
    · rw [exec_glitch_of_cam hs (by simp [hc]) hp]
      simp only [CrankState.synced_iff]; rfl
    · rw [exec_filterTimeExpiry_of_open hs hc]
      simp [State.recognise, State.modFilters, hl, PinLevel.other]
    · rw [exec_filterTimeExpiry_of_open hs hc]
      simp [State.recognise, State.modFilters, hl, PinLevel.other]

end Sys2Proof.Machine
end

section
/-! PROOF. Crank edges by crank state (O6, O7), the order of the cycle reference (O7), and the stall and the counting of losses
(O9). -/

namespace Sys2Proof.Machine

/-! ### The decoder's tests of an edge (R6, R7) -/

theorem Decoder.interval_eq {d : Decoder} {t0 : Tick} (h : d.lastEdge = some t0) (t : Tick) :
    d.interval t = min (t - t0).toNat 1048575 := by
  simp [Decoder.interval, h, satInterval]

theorem Decoder.isNoise_iff (d : Decoder) (t : Tick) :
    d.isNoise t = true ↔ ∃ p, d.pRef = some p ∧ d.interval t < p / 4 := by
  unfold Decoder.isNoise
  cases d.pRef <;> simp

theorem Decoder.isNoise_of_none {d : Decoder} (h : d.pRef = none) (t : Tick) : d.isNoise t = false := by
  simp [Decoder.isNoise, h]

theorem Decoder.isNoise_of_le {d : Decoder} {t : Tick} {p : Nat} (h : d.pRef = some p) (hp : p / 4 ≤ d.interval t) :
    d.isNoise t = false := by
  simp [Decoder.isNoise, h, hp]

theorem isGap_iff (p delta : Nat) : isGap p delta = true ↔ 2 * p ≤ delta ∧ delta ≤ 4 * p := by
  simp [isGap]

theorem isGap_eq_false {p delta : Nat} (h : delta < 2 * p ∨ 4 * p < delta) : isGap p delta = false := by
  rw [Bool.eq_false_iff, ne_eq, isGap_iff]; omega

/-! ### Crank edges by crank state -/

section CrankEdges

variable {s : State} {t : Tick} {order : List CycleBlock}

theorem State.crankEdge_of_noise (h : s.decoder.isNoise t = true) : s.crankEdge t order = s := by
  simp [State.crankEdge, h]

theorem State.crankEdge_of_stopped (hn : s.decoder.isNoise t = false) (hc : s.decoder.crank = .stopped) :
    s.crankEdge t order = s.modDecoder fun d => { d.accept t with crank := .gapSeek } := by
  simp [State.crankEdge, hn, hc]

theorem State.crankEdge_of_gapSeek (hn : s.decoder.isNoise t = false) (hc : s.decoder.crank = .gapSeek) :
    s.crankEdge t order = s.seekEdge t := by
  simp [State.crankEdge, hn, hc]

theorem State.crankEdge_of_synced (hn : s.decoder.isNoise t = false) (hc : s.decoder.crank.synced = true) :
    s.crankEdge t order = s.syncedEdge t order := by
  rcases (CrankState.synced_iff _).1 hc with h | h <;> simp [State.crankEdge, hn, h]

theorem State.seekEdge_of_none (hp : s.decoder.pRef = none) :
    s.seekEdge t = s.modDecoder fun d => { d.accept t with pRef := some (s.decoder.interval t) } := by
  simp [State.seekEdge, hp]

theorem State.seekEdge_of_gap {p : Nat} (hp : s.decoder.pRef = some p) (hg : isGap p (s.decoder.interval t) = true) :
    s.seekEdge t = s.gainRevSync t := by
  simp [State.seekEdge, hp, hg]

theorem State.seekEdge_of_not_gap {p : Nat} (hp : s.decoder.pRef = some p)
    (hg : isGap p (s.decoder.interval t) = false) :
    s.seekEdge t = s.modDecoder fun d => { d.accept t with pRef := some (s.decoder.interval t) } := by
  simp [State.seekEdge, hp, hg]

variable {i p : Nat} (hi : s.decoder.tooth = some i) (hp : s.decoder.pRef = some p)
include hi hp

/-- The next tooth (R9). -/
theorem State.syncedEdge_of_next (h : i < 27) (hd : s.decoder.interval t < 2 * p) :
    s.syncedEdge t order =
      s.modDecoder fun d => { d.accept t with tooth := some (i + 1), pRef := some (s.decoder.interval t) } := by
  simp [State.syncedEdge, hi, hp, h, hd]

/-- The gap after tooth 27 closes a revolution (R10). -/
theorem State.syncedEdge_of_gap (h : 27 ≤ i) (hg : isGap p (s.decoder.interval t) = true) :
    s.syncedEdge t order = s.closeRevolution t order := by
  simp [State.syncedEdge, hi, hp, Nat.not_lt.2 h, hg]

/-- A gap before tooth 27, or none after it, is a tooth error (R9, R10, R11). -/
theorem State.syncedEdge_of_error
    (h : i < 27 ∧ 2 * p ≤ s.decoder.interval t ∨ 27 ≤ i ∧ isGap p (s.decoder.interval t) = false) :
    s.syncedEdge t order = s.toothError t := by
  rcases h with ⟨h, hd⟩ | ⟨h, hg⟩
  · simp [State.syncedEdge, hi, hp, h, Nat.not_lt.2 hd]
  · simp [State.syncedEdge, hi, hp, Nat.not_lt.2 h, hg]

end CrankEdges

/-- Settles O6: the edge by noise, crank state and P_ref. -/
theorem crankEdgesWithoutSync : Obligations.CrankEdgesWithoutSync := by
  intro t order s
  refine ⟨fun t0 h => Decoder.interval_eq h t, fun hc hp => ?_, fun hc hp => ?_, fun p hp => ⟨fun hn => ?_, ?_, ?_⟩⟩
  · rw [State.crankEdge_of_stopped (Decoder.isNoise_of_none hp t) hc]; rfl
  · rw [State.crankEdge_of_gapSeek (Decoder.isNoise_of_none hp t) hc, State.seekEdge_of_none hp]; rfl
  · exact State.crankEdge_of_noise ((Decoder.isNoise_iff _ _).2 ⟨p, hp, hn⟩)
  · intro hc hn hg
    rw [State.crankEdge_of_gapSeek (Decoder.isNoise_of_le hp hn) hc,
      State.seekEdge_of_not_gap hp (isGap_eq_false hg)]
    rfl
  · intro hc hn hlo hhi
    rw [State.crankEdge_of_gapSeek (Decoder.isNoise_of_le hp hn) hc,
      State.seekEdge_of_gap hp ((isGap_iff _ _).2 ⟨hlo, hhi⟩)]
    rfl

/-! ### The order of the cycle reference (log entry 3) -/

/-- A block is put after those seen, unless it is one of them. -/
def appendNew (seen : List CycleBlock) (b : CycleBlock) : List CycleBlock := if b ∈ seen then seen else seen ++ [b]

theorem blockOrder_eq (order : List CycleBlock) : blockOrder order = (order ++ allBlocks).foldl appendNew [] := rfl

theorem nodup_appendNew {seen : List CycleBlock} (h : seen.Nodup) (b : CycleBlock) : (appendNew seen b).Nodup := by
  unfold appendNew
  split
  · exact h
  · next hb => exact List.nodup_append_comm.1 (List.nodup_cons.2 ⟨hb, h⟩)

theorem mem_appendNew {seen : List CycleBlock} {b c : CycleBlock} :
    c ∈ appendNew seen b ↔ c ∈ seen ∨ c = b := by
  unfold appendNew
  split
  · next hb => exact ⟨Or.inl, fun h => h.elim id fun e => e ▸ hb⟩
  · simp

theorem appendNew_extends (seen : List CycleBlock) (b : CycleBlock) : seen <+: appendNew seen b := by
  unfold appendNew
  split
  · exact ⟨[], List.append_nil _⟩
  · exact ⟨[b], rfl⟩

theorem nodup_foldl_appendNew {l seen : List CycleBlock} (h : seen.Nodup) : (l.foldl appendNew seen).Nodup := by
  induction l generalizing seen with
  | nil => exact h
  | cons b l ih => exact ih (nodup_appendNew h b)

theorem mem_foldl_appendNew {l seen : List CycleBlock} {c : CycleBlock} :
    c ∈ l.foldl appendNew seen ↔ c ∈ seen ∨ c ∈ l := by
  induction l generalizing seen with
  | nil => simp
  | cons b l ih => rw [List.foldl_cons, ih, mem_appendNew, List.mem_cons, or_assoc]

theorem foldl_appendNew_extends (l seen : List CycleBlock) : seen <+: l.foldl appendNew seen := by
  induction l generalizing seen with
  | nil => exact ⟨[], List.append_nil _⟩
  | cons b l ih => exact (appendNew_extends seen b).trans (ih _)

/-- Blocks without repetition stand in the order they are named in. -/
theorem foldl_appendNew_of_nodup {l seen : List CycleBlock} (h : (seen ++ l).Nodup) :
    l.foldl appendNew seen = seen ++ l := by
  induction l generalizing seen with
  | nil => simp
  | cons b l ih =>
    have hb : b ∉ seen := fun hm => (List.nodup_append.1 h).2.2 b hm b List.mem_cons_self rfl
    rw [List.foldl_cons, appendNew, if_neg hb, ih (by simpa using h)]
    simp

theorem blockOrder_nodup (order : List CycleBlock) : (blockOrder order).Nodup := nodup_foldl_appendNew List.nodup_nil

theorem mem_blockOrder (order : List CycleBlock) (b : CycleBlock) : b ∈ blockOrder order := by
  rw [blockOrder_eq, mem_foldl_appendNew, List.mem_append]
  exact .inr (.inr (by cases b <;> decide))

theorem blockOrder_extends {order : List CycleBlock} (h : order.Nodup) : order <+: blockOrder order := by
  have hfold : order.foldl appendNew [] = order := foldl_appendNew_of_nodup (by simpa using h)
  rw [blockOrder_eq, List.foldl_append, hfold]
  exact foldl_appendNew_extends _ _

/-! ### Revolutions and cycle references (R10, R20, R22) -/

theorem Decoder.countCleanCycle_eq (d : Decoder) :
    d.countCleanCycle =
      { d with
        lossCounter := if 255 ≤ d.lossFreeRun then d.lossCounter - 1 else d.lossCounter
        lossFreeRun := if 255 ≤ d.lossFreeRun then 0 else d.lossFreeRun + 1 } := by
  by_cases h : 255 ≤ d.lossFreeRun <;> simp [Decoder.countCleanCycle, h]

section CloseRevolution

variable {s : State} (t : Tick) (order : List CycleBlock)

theorem State.closeRevolution_of_revSync (hc : s.decoder.crank = .revSync) :
    s.closeRevolution t order = (s.modDecoder fun d => d.toothZero t).publishRevolution := by
  simp [State.closeRevolution, hc]

theorem State.closeRevolution_of_zero (hc : s.decoder.crank = .cycleSync) (hh : s.decoder.half = some .zero) :
    s.closeRevolution t order = (s.modDecoder fun d => { d.toothZero t with half := some .one }).publishRevolution := by
  simp [State.closeRevolution, hc, hh]

theorem State.closeRevolution_of_one (hc : s.decoder.crank = .cycleSync) (hh : s.decoder.half = some .one) :
    s.closeRevolution t order =
      ((s.modDecoder fun d =>
        { d.toothZero t with half := some .zero }.cycleReference).publishRevolution).cycleReference order := by
  simp [State.closeRevolution, hc, hh]

end CloseRevolution

theorem Slot.queue_eq (sl : Slot) (f : Frame) :
    sl.queue f = ⟨some f, false, if sl.content = none then 0 else sl.attempts⟩ := by
  simp [Slot.queue]

/-- The status assembly's part of the cycle reference (R156): a STATUS frame is queued, unless the silence refuses it (R153). -/
theorem State.queueStatus_eq (s : State) :
    s.queueStatus =
      if s.link.silence = true then s
      else
        s.modLink fun l =>
          { l with
            status := ⟨some s.statusFrame, false, if l.status.content = none then 0 else l.status.attempts⟩ } := by
  simp [State.queueStatus, State.offer, Link.modSlot, Link.setSlot, Link.slot, Slot.queue_eq]

/-- Settles O7: the edges by the tooth and the interval, the meters' test, and the order of the blocks. -/
theorem crankEdgesWithSync : Obligations.CrankEdgesWithSync := by
  intro t order i p s
  refine ⟨fun t0 h => Decoder.interval_eq h t, fun hc hi hp hn => ?_, ⟨rfl, fun ch => rfl⟩,
    rfl, blockOrder_nodup order, mem_blockOrder order, blockOrder_extends, rfl, rfl, rfl, rfl, rfl, rfl, rfl,
    s.queueStatus_eq⟩
  rw [State.crankEdge_of_synced (Decoder.isNoise_of_le hp hn) ((CrankState.synced_iff _).2 hc)]
  have hclose : i = 27 → 2 * p ≤ s.decoder.interval t → s.decoder.interval t ≤ 4 * p →
      s.syncedEdge t order = s.closeRevolution t order := fun h hlo hhi =>
    State.syncedEdge_of_gap hi hp h.ge ((isGap_iff _ _).2 ⟨hlo, hhi⟩)
  refine ⟨fun h hd => ?_, fun h hd => ?_, fun h hd => ?_, fun h hlo hhi hc => ?_, fun h hlo hhi hc hh => ?_,
    fun h hlo hhi hc hh => ?_⟩
  · rw [State.syncedEdge_of_next hi hp h hd]; rfl
  · exact State.syncedEdge_of_error hi hp (.inl ⟨h, hd⟩)
  · exact State.syncedEdge_of_error hi hp (.inr ⟨h.ge, isGap_eq_false hd⟩)
  · rw [hclose h hlo hhi, State.closeRevolution_of_revSync t order hc]; rfl
  · rw [hclose h hlo hhi, State.closeRevolution_of_zero t order hc hh]; rfl
  · rw [hclose h hlo hhi, State.closeRevolution_of_one t order hc hh]
    simp only [Decoder.cycleReference, Decoder.countCleanCycle_eq]; rfl

/-! ### Stall and the counting of losses (R12, R21, R22) -/

theorem exec_stallTimerExpiry {s : State} (hs : s.supplyLow = false) :
    exec .stallTimerExpiry s =
      .next
        (if s.decoder.stallRunning then
          (s.elapse (1048575 - (s.timers.timeBase - s.decoder.lastEdge.getD 0).toNat)).stall
        else s) := by
  simp [exec, execStallTimerExpiry, act_of_live hs, ticksLeft]

theorem State.stall_of_gapSeek {s : State} (hc : s.decoder.crank = .gapSeek) :
    s.stall = s.modDecoder Decoder.stall := by
  simp [State.stall, hc]

theorem State.stall_of_synced {s : State} (hc : s.decoder.crank.synced = true) :
    s.stall = (s.modDecoder Decoder.stall).publishSyncLost := by
  rcases (CrankState.synced_iff _).1 hc with h | h <;> simp [State.stall, h]

/-- A counted loss that leaves the counter at 4 (R21). -/
theorem State.countLoss_of_three_le {s : State} (h : 3 ≤ s.decoder.lossCounter) :
    s.countLoss =
      (s.modDecoder fun d => { d with lossCounter := 4, lossFreeRun := 0 }).latchStation .crankUnstable := by
  have hn : bump 4 s.decoder.lossCounter = 4 := by unfold bump; omega
  simp [State.countLoss, hn]

/-- Settles O9: the stall by the crank state, and the two counts at their bounds. -/
theorem stallAndLossCounting : Obligations.StallAndLossCounting := by
  intro s hs
  refine ⟨fun hr => ?_, fun hr hc => ?_, fun hr hc => ?_, rfl, fun hc hl => ?_, fun hc hl => ?_⟩
  · simp [exec_stallTimerExpiry hs, hr]
  · rw [exec_stallTimerExpiry hs, if_pos hr, State.stall_of_gapSeek (by simpa using hc)]
    simp [State.modDecoder, Decoder.stall]
  · rw [exec_stallTimerExpiry hs, if_pos hr, State.stall_of_synced (by simpa [CrankState.synced_iff] using hc)]
    simp [State.modDecoder, Decoder.stall]
  · have hn : bump 4 s.decoder.lossCounter = 4 := by unfold bump; omega
    simp [exec, execCrankUnstable, act_of_live hs, hc, hn, State.countLoss_of_three_le hl]
  · simp [exec, execLossFreeRunExpiry, act_of_live hs, hc, hl, Decoder.countCleanCycle_eq, State.modDecoder]

end Sys2Proof.Machine
end

section
/-! PROOF. A tooth error at every block (O8): "sync lost" and the counted loss as equations between whole states. -/

namespace Sys2Proof.Machine

/-! ### "Sync lost" at a channel (R88, R91) -/

/-- The states that "sync lost" ends. -/
def ChannelState.endsAtSyncLoss (c : ChannelState) : Bool := !decide (c = .parked ∨ c = .fault)

/-- A sequencer after "sync lost" (R91). A return that the loss starts and ends has its counts at 0 (log entry 14). -/
def Sequencer.syncLost (q : Sequencer) : Sequencer :=
  match q.state with
  | .parked => q
  | .releasing => { q with state := .parked, returnCount := 0, returnRun := 0 }
  | .tracking => { q with state := .parked, returnCount := 0, returnRun := 0 }
  | .returning => { q with state := .parked }
  | .fault => q

/-- A controller after "sync lost": its channel, if it was on its way, has a command of 0 (R75). -/
def Controller.syncLost (c : Controller) (old : ChannelState) : Controller :=
  if old.endsAtSyncLoss then { c with command := 0 } else c

/-- A driver after "sync lost": a command of 0 has turned it off (R120, R121). -/
def Driver.syncLost (d : Driver) (old : ChannelState) : Driver :=
  if old.endsAtSyncLoss then { d with duty := 0, saturated := false, output := false } else d

/-- The effective target after "sync lost": 0 out of TRACKING (R49). -/
def effectiveAtSyncLoss (old : ChannelState) (f : Int) : Int := if old = .tracking then 0 else f

/-- A running channel that is taken out of its state with the synchronisation lost passes through RETURNING to PARKED
(R88, R91). -/
theorem State.enterReturning_without_sync {s : State} {ch : Channel} (hc : s.decoder.crank ≠ .cycleSync)
    (hr : (s.channelState ch).running = true) :
    s.enterReturning ch =
      { s with
        sequencers :=
          s.sequencers.set ch { s.sequencers.get ch with state := .parked, returnCount := 0, returnRun := 0 }
        controllers := s.controllers.set ch { s.controllers.get ch with command := 0 }
        drivers := s.drivers.set ch { s.drivers.get ch with duty := 0, saturated := false, output := false }
        target :=
          { s.target with
            effective :=
              s.target.effective.set ch (effectiveAtSyncLoss (s.channelState ch) (s.target.effective.get ch)) } } := by
  have hold : s.channelState ch ≠ .parked := by intro h; rw [h] at hr; cases hr
  rw [State.enterReturning, State.setChannelState_stops rfl fun h => absurd h hold]
  simp only [State.modSequencer, hc, if_false]
  rw [State.setChannelState_stops rfl fun _ => rfl]
  simp [State.channelState, effectiveAtSyncLoss]

theorem State.channelSyncLost_eq {s : State} (hc : s.decoder.crank ≠ .cycleSync) (ch : Channel) :
    s.channelSyncLost ch =
      { s with
        sequencers := s.sequencers.set ch (s.sequencers.get ch).syncLost
        controllers := s.controllers.set ch ((s.controllers.get ch).syncLost (s.channelState ch))
        drivers := s.drivers.set ch ((s.drivers.get ch).syncLost (s.channelState ch))
        target :=
          { s.target with
            effective :=
              s.target.effective.set ch (effectiveAtSyncLoss (s.channelState ch) (s.target.effective.get ch)) } } := by
  have hq : (s.sequencers.get ch).state = s.channelState ch := rfl
  simp only [State.channelSyncLost, Sequencer.syncLost, Controller.syncLost, Driver.syncLost, hq]
  cases h : s.channelState ch with
  | parked => simp [effectiveAtSyncLoss, ChannelState.endsAtSyncLoss]
  | fault => simp [effectiveAtSyncLoss, ChannelState.endsAtSyncLoss]
  | returning =>
    rw [State.setChannelState_stops rfl fun _ => rfl]
    simp [h, effectiveAtSyncLoss, ChannelState.endsAtSyncLoss]
  | releasing =>
    rw [State.enterReturning_without_sync hc (by rw [h]; rfl)]
    simp [h, ChannelState.endsAtSyncLoss]
  | tracking =>
    rw [State.enterReturning_without_sync hc (by rw [h]; rfl)]
    simp [h, ChannelState.endsAtSyncLoss]

/-! ### The counted loss (R21) -/

/-- "Sync lost" leaves no channel in RELEASING or TRACKING. -/
theorem Sequencer.syncLost_not_running (q : Sequencer) : q.syncLost.state.running = false := by
  unfold Sequencer.syncLost
  split <;> simp_all [ChannelState.running]

/-- The next counted loss latches CRANK_UNSTABLE (R21). -/
def State.lossLatches (s : State) : Bool := decide (3 ≤ s.decoder.lossCounter) && !s.faults.station.crankUnstable

/-- The FAULT frame that a latch of CRANK_UNSTABLE offers (R157, R166). -/
def State.crankUnstableFrame (s : State) : Frame :=
  (s.modFaults fun f => { f with station := f.station.add .crankUnstable }).stationFaultFrame

/-- The station's FAULT frame with the fault set that a counted loss leaves. -/
def State.lossFrame (s : State) : Frame :=
  (s.modFaults fun f =>
    { f with
      station := { f.station with crankUnstable := f.station.crankUnstable || s.lossLatches } }).stationFaultFrame

/-- A loss that latches CRANK_UNSTABLE leaves the fault set of the frame that the latch offers. -/
theorem State.crankUnstableFrame_of_latches {s : State} (h : s.lossLatches = true) :
    s.crankUnstableFrame = s.lossFrame := by
  simp [State.crankUnstableFrame, State.lossFrame, h, StationFaults.add]

/-- A new latch of CRANK_UNSTABLE on a part whose channels stand still (R155, R176, R178). -/
theorem State.latchStation_crankUnstable {s : State} (h : ∀ ch, (s.channelState ch).running = false)
    (hn : s.faults.station.crankUnstable = false) :
    s.latchStation .crankUnstable =
      { s with
        faults := { s.faults with station := { s.faults.station with crankUnstable := true } }
        link :=
          if s.link.silence then s.link
          else
            { s.link with faultStation := s.link.faultStation.queue s.crankUnstableFrame }
        timers :=
          { s.timers with pulse := if s.straps.faultLine = .pulse then some 0 else s.timers.pulse } } := by
  have hhas : s.faults.station.has .crankUnstable = false := hn
  simp only [State.latchStation, hhas, Bool.false_eq_true, if_false]
  rw [State.returnRunning_of_none_runs fun ch => by simpa [State.channelState] using h ch]
  have hframe : State.stationFaultFrame
      (s.modFaults fun f => { f with station := f.station.add .crankUnstable }) = s.crankUnstableFrame := rfl
  rw [hframe]
  cases hs : s.link.silence <;> cases hp : s.straps.faultLine <;>
    simp [State.offer, State.startPulse, State.modFaults, State.modLink, State.modTimers, hs, hp, Link.modSlot,
      Link.setSlot, Link.slot, StationFaults.add]

/-- A counted loss on a part whose channels stand still: the counts, and with the fourth loss the latch, its frame and its pulse
(R21, R155, R176, R178). -/
theorem State.countLoss_eq {s : State} (h : ∀ ch, (s.channelState ch).running = false) :
    s.countLoss =
      { s with
        decoder := { s.decoder with lossCounter := min 4 (s.decoder.lossCounter + 1), lossFreeRun := 0 }
        faults :=
          { s.faults with
            station :=
              { s.faults.station with crankUnstable := s.faults.station.crankUnstable || s.lossLatches } }
        link :=
          if s.lossLatches && !s.link.silence then
            { s.link with faultStation := s.link.faultStation.queue s.lossFrame }
          else s.link
        timers :=
          { s.timers with
            pulse := if s.lossLatches && decide (s.straps.faultLine = .pulse) then some 0 else s.timers.pulse } } := by
  by_cases hl : 3 ≤ s.decoder.lossCounter
  · rw [State.countLoss_of_three_le hl]
    cases hu : s.faults.station.crankUnstable
    · have hlatch : s.lossLatches = true := by simp [State.lossLatches, hl, hu]
      have hframe : State.crankUnstableFrame
          (s.modDecoder fun d => { d with lossCounter := 4, lossFreeRun := 0 }) = s.lossFrame :=
        s.crankUnstableFrame_of_latches hlatch
      rw [State.latchStation_crankUnstable (s := s.modDecoder _) h hu, hframe]
      cases hs : s.link.silence <;> cases hp : s.straps.faultLine <;> simp [hlatch, hl, hs, hp]
    · have hst : { s.faults.station with crankUnstable := true } = s.faults.station := by rw [← hu]
      rw [State.latchStation_of_has (by simpa [StationFaults.has] using hu)]
      simp [State.lossLatches, hl, hu, hst, State.modDecoder]
  · simp [State.countLoss, State.lossLatches, hl, State.modDecoder, bump]

/-! ### The tooth error (R11) -/

theorem State.publishSyncLost_eq {s : State} (hc : s.decoder.crank ≠ .cycleSync) :
    s.publishSyncLost =
      { s with
        meters := ⟨s.meters.a.syncLost, s.meters.b.syncLost⟩
        target :=
          { s.target.syncReset with
            effective :=
              ⟨effectiveAtSyncLoss (s.channelState .a) s.target.effective.a,
                effectiveAtSyncLoss (s.channelState .b) s.target.effective.b⟩ }
        oil := s.oil.syncLost
        sequencers := ⟨s.sequencers.a.syncLost, s.sequencers.b.syncLost⟩
        controllers :=
          ⟨s.controllers.a.syncLost (s.channelState .a), s.controllers.b.syncLost (s.channelState .b)⟩
        drivers := ⟨s.drivers.a.syncLost (s.channelState .a), s.drivers.b.syncLost (s.channelState .b)⟩
        timers := { s.timers with status := some ⟨0, 0⟩ } } := by
  simp only [State.publishSyncLost, State.eachChannel_def]
  rw [State.channelSyncLost_eq, State.channelSyncLost_eq]
  · simp [State.startStatusTimer, State.modTimers, State.modOil, State.modTarget, State.modMeter, State.channelState,
      TargetUnit.syncReset, Pair.get, Pair.set]
  · simpa using hc
  · simpa using hc

/-- After "sync lost" no channel is in RELEASING or TRACKING (R91). -/
theorem State.publishSyncLost_none_runs {s : State} (hc : s.decoder.crank ≠ .cycleSync) (ch : Channel) :
    (s.publishSyncLost.channelState ch).running = false := by
  rw [State.publishSyncLost_eq hc]
  cases ch <;> exact Sequencer.syncLost_not_running _

/-- Settles O8: "sync lost" and the counted loss are equations between whole states, from which each item is read off. -/
theorem toothErrorEffect : Obligations.ToothErrorEffect := by
  intro t s
  have hc : (s.modDecoder fun d => d.toothError t).decoder.crank ≠ .cycleSync := by simp [Decoder.toothError]
  have hu : s.toothError t = _ := State.countLoss_eq (State.publishSyncLost_none_runs hc)
  rw [State.publishSyncLost_eq hc] at hu
  rw [hu]
  refine ⟨rfl, rfl, fun ch => ⟨⟨(s.meters.get ch).invalidateRing.ring, ?_, fun k => ?_⟩, ?_, ?_, ?_, ?_⟩,
    rfl, rfl, rfl, rfl, rfl, rfl, ?_, rfl, rfl, rfl, rfl, rfl, rfl, rfl, rfl, rfl⟩
  · cases ch <;> rfl
  · simp [Meter.invalidateRing]
  · cases ch <;> rfl
  · cases ch <;> rfl
  · cases ch <;> rfl
  · cases ch <;> rfl
  · rw [Slot.queue_eq]
    rfl

end Sys2Proof.Machine
end

section
/-! PROOF. Edge assignment (O11): the nearest matching tooth, by the teeth in the order of their numbers. -/

namespace Sys2Proof.Machine

section Assignment

variable (m : Meter) (ch : Channel) (role : Role) (angle : Nat)

theorem Meter.isMatch_iff (k : Tooth) :
    m.isMatch ch role angle k = true ↔ (m.distance ch role angle k).natAbs ≤ 180 := by
  simp [Meter.isMatch]

theorem Meter.distance_eq (k : Tooth) :
    m.distance ch role angle k =
      wrapAngle
        ((angle : Int) -
          (nominalAngle k + headOffset role + m.parkOffset.getD 0 + m.corr.get k + phaseSign ch * m.estimate.getD 0) %
            7200) := rfl

/-- One tooth comes before another as an edge's tooth: it is nearer, or equally near with the lower nominal angle (R26). -/
def Meter.preferred (k j : Tooth) : Prop :=
  (m.distance ch role angle k).natAbs < (m.distance ch role angle j).natAbs ∨
    (m.distance ch role angle k).natAbs = (m.distance ch role angle j).natAbs ∧ nominalAngle k ≤ nominalAngle j

/-- What the search has found among the teeth it has seen: no match, or the matching tooth that comes before every other. -/
def Meter.bestOf (seen : List Tooth) : Option Tooth → Prop
  | none => ∀ j ∈ seen, m.isMatch ch role angle j = false
  | some k =>
    k ∈ seen ∧ m.isMatch ch role angle k = true ∧
      ∀ j ∈ seen, m.isMatch ch role angle j = true → m.preferred ch role angle k j

variable {m ch role angle}

/-- One more tooth, with a nominal angle above those seen, keeps the search's result right. -/
theorem Meter.bestOf_better {seen : List Tooth} {found : Option Tooth} {k : Tooth}
    (h : m.bestOf ch role angle seen found) (hk : ∀ j ∈ seen, nominalAngle j ≤ nominalAngle k) :
    m.bestOf ch role angle (seen ++ [k]) (m.better ch role angle found k) := by
  have hself : m.isMatch ch role angle k = true → m.preferred ch role angle k k := fun _ => .inr ⟨rfl, le_rfl⟩
  have hseen : ∀ {P : Tooth → Prop}, (∀ j ∈ seen, P j) → P k → ∀ j ∈ seen ++ [k], P j := fun hs hlast =>
    List.forall_mem_append.2 ⟨hs, List.forall_mem_singleton.2 hlast⟩
  unfold Meter.better
  split
  · next hm =>
    cases found with
    | none =>
      exact ⟨by simp, hm, hseen (fun j hj hjm => by simp [h j hj] at hjm) hself⟩
    | some i =>
      obtain ⟨hi, him, hbest⟩ := h
      by_cases hlt : (m.distance ch role angle k).natAbs < (m.distance ch role angle i).natAbs
      · simp only [hlt, if_true]
        refine ⟨by simp, hm, hseen (fun j hj hjm => .inl ?_) hself⟩
        rcases hbest j hj hjm with h | h <;> omega
      · simp only [hlt, if_false]
        refine ⟨by simp [hi], him, hseen hbest fun _ => ?_⟩
        exact (Nat.lt_or_eq_of_le (Nat.not_lt.1 hlt)).imp id fun he => ⟨he, hk i hi⟩
  · next hm =>
    cases found with
    | none => exact hseen h (by simpa using hm)
    | some i =>
      obtain ⟨hi, him, hbest⟩ := h
      exact ⟨by simp [hi], him, hseen hbest fun hkm => absurd hkm hm⟩

theorem Meter.bestOf_foldl {ks seen : List Tooth} {found : Option Tooth} (h : m.bestOf ch role angle seen found)
    (hsorted : (seen ++ ks).Pairwise fun j k => nominalAngle j ≤ nominalAngle k) :
    m.bestOf ch role angle (seen ++ ks) (ks.foldl (m.better ch role angle) found) := by
  induction ks generalizing seen found with
  | nil => simpa using h
  | cons k ks ih =>
    have hk : ∀ j ∈ seen, nominalAngle j ≤ nominalAngle k := fun j hj =>
      (List.pairwise_append.1 hsorted).2.2 j hj k List.mem_cons_self
    have := ih (Meter.bestOf_better h hk) (by simpa using hsorted)
    simpa using this

variable (m ch role angle)

/-- The tooth that the meter assigns is the best of all five. -/
theorem Meter.assign_bestOf : m.bestOf ch role angle [.e0, .e1, .e2, .e3, .e4] (m.assign ch role angle) :=
  Meter.bestOf_foldl (seen := []) (found := none) (fun j hj => by cases hj) (by simp [nominalAngle])

theorem Tooth.mem_all (k : Tooth) : k ∈ [Tooth.e0, .e1, .e2, .e3, .e4] := by
  cases k <;> decide

theorem Meter.assign_eq_none_iff :
    m.assign ch role angle = none ↔ ∀ k, 180 < (m.distance ch role angle k).natAbs := by
  have hbest := m.assign_bestOf ch role angle
  constructor
  · intro h k
    rw [h] at hbest
    simpa [Meter.isMatch] using hbest k k.mem_all
  · intro h
    cases ha : m.assign ch role angle with
    | none => rfl
    | some k =>
      rw [ha] at hbest
      obtain ⟨_, hm, _⟩ := hbest
      exact absurd ((m.isMatch_iff ch role angle k).1 hm) (Nat.not_le.2 (h k))

theorem Meter.assign_eq_some {k : Tooth} (h : m.assign ch role angle = some k) :
    (m.distance ch role angle k).natAbs ≤ 180 ∧
      ∀ j, (m.distance ch role angle j).natAbs ≤ 180 → m.preferred ch role angle k j := by
  have hbest := m.assign_bestOf ch role angle
  rw [h] at hbest
  obtain ⟨_, hm, hpref⟩ := hbest
  exact ⟨(m.isMatch_iff ch role angle k).1 hm, fun j hj =>
    hpref j j.mem_all ((m.isMatch_iff ch role angle j).2 hj)⟩

end Assignment

/-- A wrapped angle differs from the angle by whole engine cycles. -/
theorem wrapAngle_congr (x : Int) : (x - wrapAngle x) % 7200 = 0 := by
  unfold wrapAngle
  omega

/-- Settles O11: the angles by evaluation, the assignment by the search's invariant over the five teeth. -/
theorem edgeAssignment : Obligations.EdgeAssignment := by
  refine ⟨⟨rfl, rfl, rfl, rfl, rfl, rfl⟩,
    fun x => ⟨(wrapAngle_bounds x).1, (wrapAngle_bounds x).2, wrapAngle_congr x⟩, fun m ch role angle =>
    ⟨fun k => ?_, m.assign_eq_none_iff ch role angle, fun k => m.assign_eq_some ch role angle⟩⟩
  rw [Meter.distance_eq]
  cases ch <;> simp [phaseSign]

end Sys2Proof.Machine
end

section
/-! PROOF. CLEAR at every block (O36): each channel item that a CLEAR leaves, as a function of the state it finds. -/

namespace Sys2Proof.Machine

/-! ### The duty computed anew (R120) -/

/-- The duty of a command under the cuts and the supply of the station, for a driver's resistance estimate and trip (R120). -/
def dutyUnder (c : Conditions) (supply : Option Int) (command rEst : Nat) (trip : Bool) : Nat × Bool :=
  dutyOf command rEst (trip || c.underVoltage || c.thermalCut) supply

/-- A driver with its duty computed anew from its estimate and its trip. -/
def Driver.refresh (duty : Nat → Bool → Nat × Bool) (d : Driver) : Driver :=
  { d with
    duty := (duty d.rEst d.trip).1
    saturated := (duty d.rEst d.trip).2
    output := d.output && decide ((duty d.rEst d.trip).1 ≠ 0) }

theorem State.computeDuty_eq (s : State) (ch : Channel) :
    s.computeDuty ch = s.modDriver ch (Driver.refresh (dutyUnder s.conditions s.sense.supply (s.command ch))) := rfl

/-- A command of 0 has the duty computed anew at 0. -/
theorem Driver.refresh_zero (c : Conditions) (supply : Option Int) (d : Driver) :
    d.refresh (dutyUnder c supply 0) = { d with duty := 0, saturated := false, output := false } := by
  simp [Driver.refresh, dutyUnder, dutyOf]

/-- The duty stands as computed from the driver's own estimate and trip, and the output is on only where it was on before and
the duty is not 0. -/
def Driver.refreshedFrom (d : Driver) (duty : Nat → Bool → Nat × Bool) (d' : Driver) : Prop :=
  (d'.duty, d'.saturated) = duty d'.rEst d'.trip ∧ (d'.output = true → d.output = true ∧ d'.duty ≠ 0)

theorem Driver.refresh_refreshedFrom {d e : Driver} (duty : Nat → Bool → Nat × Bool)
    (h : e.output = true → d.output = true) : d.refreshedFrom duty (e.refresh duty) := by
  refine ⟨rfl, fun ho => ?_⟩
  simp only [Driver.refresh, Bool.and_eq_true, decide_eq_true_eq] at ho
  exact ⟨h ho.1, ho.2⟩

/-! ### What a CLEAR leaves of a channel (R35, R94, R111, R123, R125, R179) -/

section ClearedItems

variable (s : State) (relearn : Bool) (ch : Channel)

/-- The relearn of a CLEAR acts at the channel (R179). -/
def State.relearns : Bool := relearn && (s.channelState ch).parkedOrFault

def State.commandAfterClear : Nat := if s.channelState ch = .fault then 0 else s.command ch

def State.sequencerAfterClear : Sequencer :=
  { s.sequencers.get ch with
    state := if s.channelState ch = .fault then .parked else s.channelState ch
    attempts := 3
    retryHold := 0 }

def State.meterAfterClear : Meter :=
  if s.relearns relearn ch then (s.meters.get ch).relearn else s.meters.get ch

def State.controllerAfterClear : Controller :=
  { s.controllers.get ch with
    command := s.commandAfterClear ch
    learnedNull := if s.relearns relearn ch then s.store.params.nullBase else (s.controllers.get ch).learnedNull }

/-- The overcurrent trip clears with OVERCURRENT (R125). -/
def Driver.clearTrip (duty : Nat → Bool → Nat × Bool) (had : Bool) (d : Driver) : Driver :=
  if had then { d with trip := false }.refresh duty else d

/-- The driver after the exit from FAULT. -/
def State.driverParked : Driver :=
  if s.channelState ch = .fault then
    (s.drivers.get ch).refresh (dutyUnder s.conditions s.sense.supply (s.commandAfterClear ch))
  else s.drivers.get ch

/-- The driver before the relearn: the exit from FAULT and the cleared trip each compute its duty anew. -/
def State.driverUntripped : Driver :=
  (s.driverParked ch).clearTrip (dutyUnder s.conditions s.sense.supply (s.commandAfterClear ch))
    (s.faults.channel.get ch).overcurrent

def State.driverAfterClear : Driver :=
  if s.relearns relearn ch then
    { s.driverUntripped ch with rEst := s.store.params.coilResistance }.refresh
      (dutyUnder s.conditions s.sense.supply (s.commandAfterClear ch))
  else s.driverUntripped ch

/-- The state before the relearn. -/
def State.clearedBeforeRelearn : State :=
  { s with
    faults := { s.faults with channel := s.faults.channel.set ch .empty }
    sequencers := s.sequencers.set ch (s.sequencerAfterClear ch)
    controllers := s.controllers.set ch { s.controllers.get ch with command := s.commandAfterClear ch }
    drivers := s.drivers.set ch (s.driverUntripped ch) }

theorem State.sequencerClear_eq :
    s.sequencerClear ch =
      { s with
        sequencers := s.sequencers.set ch (s.sequencerAfterClear ch)
        controllers := s.controllers.set ch { s.controllers.get ch with command := s.commandAfterClear ch }
        drivers := s.drivers.set ch (s.driverParked ch) } := by
  have hq : (s.modSequencer ch fun q => { q with attempts := 3, retryHold := 0 }).channelState ch =
      s.channelState ch := by
    simp [State.channelState]
  rw [State.sequencerClear, hq]
  by_cases h : s.channelState ch = .fault
  · rw [if_pos h, State.setChannelState_stops rfl fun _ => rfl, hq, h]
    simp [State.modSequencer, State.sequencerAfterClear, State.commandAfterClear, State.driverParked, h,
      Driver.refresh_zero]
  · have hcommand : s.controllers.set ch { s.controllers.get ch with command := s.command ch } = s.controllers :=
      s.controllers.set_get_same ch
    simp only [State.sequencerAfterClear, State.commandAfterClear, State.driverParked, if_neg h, hcommand,
      Pair.set_get_same]
    rfl

theorem State.relearn_eq :
    s.relearn ch =
      if (s.channelState ch).parkedOrFault then
        { s with
          meters := s.meters.set ch (s.meters.get ch).relearn
          controllers := s.controllers.set ch { s.controllers.get ch with learnedNull := s.store.params.nullBase }
          drivers :=
            s.drivers.set ch
              ({ s.drivers.get ch with rEst := s.store.params.coilResistance }.refresh
                (dutyUnder s.conditions s.sense.supply (s.command ch))) }
      else s := by
  unfold State.relearn
  split
  · simp [State.computeDuty_eq, State.modMeter, State.modController, State.modDriver, State.command]
  · rfl

theorem State.clearTrip_eq (had : Bool) :
    (if had then (s.modDriver ch fun d => { d with trip := false }).computeDuty ch else s) =
      s.modDriver ch (Driver.clearTrip (dutyUnder s.conditions s.sense.supply (s.command ch)) had) := by
  cases had <;> simp [State.computeDuty_eq, State.modDriver, Driver.clearTrip, State.command]

theorem State.clearChannel_eq_relearn :
    s.clearChannel relearn ch =
      if relearn then (s.clearedBeforeRelearn ch).relearn ch else s.clearedBeforeRelearn ch := by
  simp only [State.clearChannel, State.sequencerClear_eq, State.clearTrip_eq]
  cases ch <;> rfl

/-- The exit from FAULT goes to PARKED, where relearn acts as it does in FAULT (R179). -/
theorem State.sequencerAfterClear_parkedOrFault :
    (s.sequencerAfterClear ch).state.parkedOrFault = (s.channelState ch).parkedOrFault := by
  simp only [State.sequencerAfterClear]
  split
  · next h => rw [h]; rfl
  · rfl

theorem State.clearChannel_eq :
    s.clearChannel relearn ch =
      { s with
        faults := { s.faults with channel := s.faults.channel.set ch .empty }
        sequencers := s.sequencers.set ch (s.sequencerAfterClear ch)
        meters := s.meters.set ch (s.meterAfterClear relearn ch)
        controllers := s.controllers.set ch (s.controllerAfterClear relearn ch)
        drivers := s.drivers.set ch (s.driverAfterClear relearn ch) } := by
  have hstate : (s.clearedBeforeRelearn ch).channelState ch = (s.sequencerAfterClear ch).state := by
    simp [State.clearedBeforeRelearn, State.channelState]
  rw [State.clearChannel_eq_relearn, State.relearn_eq, hstate, State.sequencerAfterClear_parkedOrFault]
  cases relearn <;> cases hp : (s.channelState ch).parkedOrFault <;>
    simp [State.clearedBeforeRelearn, State.meterAfterClear, State.controllerAfterClear, State.driverAfterClear,
      State.relearns, hp, State.command]

end ClearedItems

/-! ### The frame at every block -/

/-- A pair with the values of the covered channels replaced. -/
def Pair.replaceWhere {α : Type} (p : Pair α) (covers : Channel → Bool) (new : Channel → α) : Pair α :=
  ⟨if covers .a then new .a else p.a, if covers .b then new .b else p.b⟩

@[simp] theorem Pair.get_replaceWhere {α : Type} (p : Pair α) (covers : Channel → Bool) (new : Channel → α)
    (ch : Channel) : (p.replaceWhere covers new).get ch = if covers ch then new ch else p.get ch := by
  cases ch <;> rfl

/-- A CLEAR acts on each covered channel by itself, and on the station (R179). -/
theorem State.takeClear_eq (s : State) (w : Word16) :
    s.takeClear w =
      { s with
        faults :=
          { channel := s.faults.channel.replaceWhere (readScope w).covers fun _ => .empty
            station := if (readScope w).coversStation then .empty else s.faults.station }
        sequencers := s.sequencers.replaceWhere (readScope w).covers s.sequencerAfterClear
        meters := s.meters.replaceWhere (readScope w).covers (s.meterAfterClear (readRelearn w))
        controllers := s.controllers.replaceWhere (readScope w).covers (s.controllerAfterClear (readRelearn w))
        drivers := s.drivers.replaceWhere (readScope w).covers (s.driverAfterClear (readRelearn w))
        decoder :=
          if (readScope w).coversStation then { s.decoder with lossCounter := 0, lossFreeRun := 0 }
          else s.decoder } := by
  cases h : readScope w <;> simp only [State.takeClear, State.clearChannel_eq, h] <;> rfl

theorem State.takeClear_decoder (s : State) (w : Word16) :
    (s.takeClear w).decoder =
      if (readScope w).coversStation then { s.decoder with lossCounter := 0, lossFreeRun := 0 } else s.decoder := by
  rw [State.takeClear_eq]

theorem readScope_covers_iff (w : Word16) (ch : Channel) :
    (readScope w).covers ch = true ↔ w.toNat % 4 = 3 ∨ w.toNat % 4 = (match ch with | .a => 1 | .b => 2) := by
  have h : w.toNat % 4 = 0 ∨ w.toNat % 4 = 1 ∨ w.toNat % 4 = 2 ∨ w.toNat % 4 = 3 := by omega
  rcases h with h | h | h | h <;> cases ch <;> simp [readScope, h, Scope.covers]

theorem readScope_coversStation_iff (w : Word16) :
    (readScope w).coversStation = true ↔ w.toNat % 4 = 0 ∨ w.toNat % 4 = 3 := by
  have h : w.toNat % 4 = 0 ∨ w.toNat % 4 = 1 ∨ w.toNat % 4 = 2 ∨ w.toNat % 4 = 3 := by omega
  rcases h with h | h | h | h <;> simp [readScope, h, Scope.coversStation]

/-- An accepted CLEAR frame of another station (R150, R179). -/
theorem exec_clear_of_accepted {h : Header} {w : Word16} {s : State} (hears : Safety.Hears s)
    (hsource : h.source ≠ s.straps.address) (hdest : h.addressed = false ∨ h.dest = s.straps.address) :
    exec (.clear h w) s = .next ((s.atBitRead fun l => l.endFrame.countGood).takeClear w) := by
  obtain ⟨hsupply, hfree, hidle⟩ := hears
  have haccepted : accepted s.straps.address { cls := 4, header := h, payload := [w] } = true := by
    simpa [accepted] using hdest
  simp only [exec, execClear, act_of_live hsupply]
  rw [State.receive_of_accepted ((Link.hears_iff _).2 ⟨hfree, hidle⟩) hsource haccepted, State.deliver_clear]

section DriverAfterClear

variable (s : State) (relearn : Bool) (ch : Channel)

/-- The items of the driver that a CLEAR names, and those it leaves (R123, R125). -/
theorem State.driverAfterClear_items :
    s.driverAfterClear relearn ch =
      { s.drivers.get ch with
        trip := (s.drivers.get ch).trip && !(s.faults.channel.get ch).overcurrent
        rEst := if s.relearns relearn ch then s.store.params.coilResistance else (s.drivers.get ch).rEst
        duty := (s.driverAfterClear relearn ch).duty
        saturated := (s.driverAfterClear relearn ch).saturated
        output := (s.driverAfterClear relearn ch).output } := by
  have huntripped : s.driverUntripped ch =
      { s.drivers.get ch with
        trip := (s.drivers.get ch).trip && !(s.faults.channel.get ch).overcurrent
        duty := (s.driverUntripped ch).duty
        saturated := (s.driverUntripped ch).saturated
        output := (s.driverUntripped ch).output } := by
    unfold State.driverUntripped State.driverParked Driver.clearTrip
    by_cases hf : s.channelState ch = .fault <;> cases ho : (s.faults.channel.get ch).overcurrent <;>
      simp [hf, Driver.refresh]
  unfold State.driverAfterClear
  rw [huntripped]
  split <;> rfl

theorem Driver.refresh_output {duty : Nat → Bool → Nat × Bool} {d : Driver} (h : (d.refresh duty).output = true) :
    d.output = true := by
  simp only [Driver.refresh, Bool.and_eq_true] at h
  exact h.1

theorem Driver.clearTrip_output {duty : Nat → Bool → Nat × Bool} {had : Bool} {d : Driver}
    (h : (d.clearTrip duty had).output = true) : d.output = true := by
  cases had
  · exact h
  · exact Driver.refresh_output (d := { d with trip := false }) h

theorem State.driverParked_output (h : (s.driverParked ch).output = true) : (s.drivers.get ch).output = true := by
  unfold State.driverParked at h
  split at h
  · exact Driver.refresh_output h
  · exact h

/-- Wherever a CLEAR touches the driver, its duty stands as computed anew (R120). -/
theorem State.driverAfterClear_refreshed
    (h : s.channelState ch = .fault ∨ (s.faults.channel.get ch).overcurrent = true ∨ s.relearns relearn ch = true) :
    (s.drivers.get ch).refreshedFrom (dutyUnder s.conditions s.sense.supply (s.commandAfterClear ch))
      (s.driverAfterClear relearn ch) := by
  unfold State.driverAfterClear
  cases hr : s.relearns relearn ch
  · unfold State.driverUntripped
    cases ho : (s.faults.channel.get ch).overcurrent
    · have hf : s.channelState ch = .fault := by simpa [hr, ho] using h
      simp only [State.driverParked, hf, if_true]
      exact Driver.refresh_refreshedFrom _ id
    · exact Driver.refresh_refreshedFrom _ (s.driverParked_output ch)
  · exact Driver.refresh_refreshedFrom _ fun h => s.driverParked_output ch (Driver.clearTrip_output h)

theorem State.driverAfterClear_untouched
    (h : ¬(s.channelState ch = .fault ∨ (s.faults.channel.get ch).overcurrent = true ∨ s.relearns relearn ch = true)) :
    s.driverAfterClear relearn ch = s.drivers.get ch := by
  push Not at h
  obtain ⟨hfault, hhad, hrelearn⟩ := h
  simp [State.driverAfterClear, State.driverUntripped, State.driverParked, Driver.clearTrip, hfault, hhad, hrelearn]

end DriverAfterClear

theorem ChannelState.parkedOrFault_iff (c : ChannelState) : c.parkedOrFault = true ↔ c = .parked ∨ c = .fault := by
  cases c <;> simp [ChannelState.parkedOrFault]

theorem State.relearns_iff (s : State) (w : Word16) (ch : Channel) :
    s.relearns (readRelearn w) ch = true ↔
      w.getLsbD 15 = true ∧ (s.channelState ch = .parked ∨ s.channelState ch = .fault) := by
  simp [State.relearns, readRelearn, ChannelState.parkedOrFault_iff]

/-- Settles O36: the whole state that an accepted CLEAR leaves, channel by channel. -/
theorem clearFrameTaken : Obligations.ClearFrameTaken := by
  intro h w s hears hsource hdest
  refine ⟨_, exec_clear_of_accepted hears hsource hdest, ?_⟩
  rw [State.takeClear_eq]
  refine ⟨fun ch hcovered => ?_, fun ch hcovered => ?_, fun hstation => ?_, fun hstation => ?_, rfl⟩
  · have hc := (readScope_covers_iff w ch).2 hcovered
    simp only [Pair.get_replaceWhere, hc, if_true]
    refine ⟨rfl, rfl, ?_, ?_, ?_, fun htouched => ?_, fun hclear => ?_⟩
    · show s.meterAfterClear (readRelearn w) ch = _
      simp only [State.meterAfterClear, State.relearns_iff]; rfl
    · show s.controllerAfterClear (readRelearn w) ch = _
      simp only [State.controllerAfterClear, State.relearns_iff]; rfl
    · refine (State.driverAfterClear_items _ _ ch).trans ?_
      simp only [State.relearns_iff]; rfl
    · have hr := State.driverAfterClear_refreshed s (readRelearn w) ch (by rwa [State.relearns_iff])
      refine ⟨?_, hr.2⟩
      simp only [State.command, State.driverCut, Pair.get_replaceWhere, hc, if_true]
      exact hr.1
    · exact State.driverAfterClear_untouched s (readRelearn w) ch (by rwa [State.relearns_iff])
  · have hc : (readScope w).covers ch = false := by
      rw [Bool.eq_false_iff]; exact mt (readScope_covers_iff w ch).1 hcovered
    simp [hc]
  · simp [(readScope_coversStation_iff w).2 hstation, StationFaults.isEmpty]
  · have hc : (readScope w).coversStation = false := by
      rw [Bool.eq_false_iff, ne_eq, readScope_coversStation_iff]; omega
    simp [hc]

end Sys2Proof.Machine
end

section
/-! PROOF. The decoder's items under every step (O56): how a step can change the decoder, and that each change keeps the
items present and in range. -/

namespace Sys2Proof.Machine

/-! ### How the decoder can change -/

/-- The counts after a counted loss (R21). -/
def Decoder.countLoss (d : Decoder) : Decoder := { d with lossCounter := bump 4 d.lossCounter, lossFreeRun := 0 }

/-- What a crank edge can do to the decoder (R6 to R11, R20). -/
inductive Decoder.CrankMove (d : Decoder) (t : Tick) : Decoder → Prop
  | noise : CrankMove d t d
  | first (hc : d.crank = .stopped) : CrankMove d t { d.accept t with crank := .gapSeek }
  | seek (hc : d.crank = .gapSeek) : CrankMove d t { d.accept t with pRef := some (d.interval t) }
  | gain (hc : d.crank = .gapSeek) :
      CrankMove d t { d.toothZero t with crank := .revSync, half := none, prevCam := .both none }
  | next {i : Nat} (hc : d.crank.synced = true) (hi : i < 27) :
      CrankMove d t { d.accept t with tooth := some (i + 1), pRef := some (d.interval t) }
  | revolution {half : Option Half} (hc : d.crank.synced = true) (hh : half.isSome = d.half.isSome) :
      CrankMove d t { d.toothZero t with half := half }
  | cycle (hc : d.crank = .cycleSync) : CrankMove d t { d.toothZero t with half := some .zero }.cycleReference
  | error : CrankMove d t (d.toothError t).countLoss

/-- The decoder with a cam's previous edge angle renewed (R17). -/
def Decoder.markCam (d : Decoder) (ch : Channel) (t : Tick) : Decoder :=
  { d with prevCam := d.prevCam.set ch (some (d.revAngle t)) }

/-- What a cam edge can do to the decoder (R15 to R19). -/
inductive Decoder.CamMove (d : Decoder) (ch : Channel) (t : Tick) : Decoder → Prop
  | ignored : CamMove d ch t d
  | marked (hc : d.crank.synced = true) : CamMove d ch t (d.markCam ch t)
  | resolved (hc : d.crank = .revSync) (half : Half) :
      CamMove d ch t { d.markCam ch t with crank := .cycleSync, half := some half }
  | conflict (hc : d.crank = .cycleSync) : CamMove d ch t (d.markCam ch t).halfConflict.countLoss

/-- What a step can do to the decoder; `edge` is the open candidate of the crank input. -/
inductive Decoder.Move (d : Decoder) (edge : Option Candidate) : Decoder → Prop
  | same : Move d edge d
  | reset : Move d edge Decoder.atReset
  | crank {c : Candidate} {d' : Decoder} (hc : edge = some c) (h : d.CrankMove c.stamp d') : Move d edge d'
  | cam {ch : Channel} {t : Tick} {d' : Decoder} (h : d.CamMove ch t d') : Move d edge d'
  | stall : Move d edge d.stall
  | loss (hc : d.crank ≠ .stopped) : Move d edge d.countLoss
  | clean : Move d edge d.countCleanCycle
  | clear : Move d edge { d with lossCounter := 0, lossFreeRun := 0 }

/-! ### Edges -/

theorem State.countLoss_decoder (s : State) : s.countLoss.decoder = s.decoder.countLoss := by
  simp only [State.countLoss]
  split <;> simp [Decoder.countLoss]

theorem State.toothError_decoder (s : State) (t : Tick) :
    (s.toothError t).decoder = (s.decoder.toothError t).countLoss := by
  simp [State.toothError, State.countLoss_decoder]

theorem State.closeRevolution_move {s : State} (t : Tick) (order : List CycleBlock)
    (hc : s.decoder.crank.synced = true) :
    s.decoder.CrankMove t (s.closeRevolution t order).decoder := by
  unfold State.closeRevolution
  split
  · next hh => simpa using Decoder.CrankMove.revolution (t := t) hc (by simp [hh])
  · next hcycle hh => simpa using Decoder.CrankMove.cycle hcycle
  · simp only [State.publishRevolution_frame, State.modDecoder_decoder]
    exact .revolution hc rfl

theorem State.syncedEdge_move {s : State} (t : Tick) (order : List CycleBlock) (hc : s.decoder.crank.synced = true) :
    s.decoder.CrankMove t (s.syncedEdge t order).decoder := by
  have herror : s.decoder.CrankMove t (s.toothError t).decoder := by
    rw [State.toothError_decoder]; exact .error
  simp only [State.syncedEdge]
  split
  · split
    · split
      · exact .next hc ‹_›
      · exact herror
    · split
      · exact State.closeRevolution_move t order hc
      · exact herror
  · exact herror

theorem State.seekEdge_move {s : State} (t : Tick) (hc : s.decoder.crank = .gapSeek) :
    s.decoder.CrankMove t (s.seekEdge t).decoder := by
  simp only [State.seekEdge]
  split
  · exact .seek hc
  · split
    · simpa [State.gainRevSync] using Decoder.CrankMove.gain (t := t) hc
    · exact .seek hc

theorem State.crankEdge_move (s : State) (t : Tick) (order : List CycleBlock) :
    s.decoder.CrankMove t (s.crankEdge t order).decoder := by
  cases hn : s.decoder.isNoise t
  · cases hc : s.decoder.crank with
    | stopped => rw [State.crankEdge_of_stopped hn hc]; exact .first hc
    | gapSeek => rw [State.crankEdge_of_gapSeek hn hc]; exact State.seekEdge_move t hc
    | revSync =>
      have hs : s.decoder.crank.synced = true := by rw [hc]; rfl
      rw [State.crankEdge_of_synced hn hs]; exact State.syncedEdge_move t order hs
    | cycleSync =>
      have hs : s.decoder.crank.synced = true := by rw [hc]; rfl
      rw [State.crankEdge_of_synced hn hs]; exact State.syncedEdge_move t order hs
  · rw [State.crankEdge_of_noise hn]; exact .noise

theorem State.camEdge_move (s : State) (ch : Channel) (t : Tick) : s.decoder.CamMove ch t (s.camEdge ch t).decoder := by
  simp only [State.camEdge]
  split
  · exact .ignored
  · exact .ignored
  · next hc =>
    split
    · simpa [Decoder.markCam] using Decoder.CamMove.resolved (ch := ch) (t := t) hc (closePairHalf s.straps.role)
    · simpa [Decoder.markCam] using Decoder.CamMove.marked (ch := ch) (t := t) (by rw [hc]; rfl)
  · next hc =>
    split
    · rw [State.countLoss_decoder]
      simpa [Decoder.markCam] using Decoder.CamMove.conflict (ch := ch) (t := t) hc
    · simpa [Decoder.markCam] using Decoder.CamMove.marked (ch := ch) (t := t) (by rw [hc]; rfl)

/-! ### Commands -/

/-- A meaning's step changes the decoder as its effect does, or leaves it while VDD is low (R174). -/
theorem act_move {s t : State} {f : State → State} (h : act s f = .next t)
    (hf : s.decoder.Move s.filters.crank.candidate (f s).decoder) :
    s.decoder.Move s.filters.crank.candidate t.decoder := by
  obtain rfl : (if s.supplyLow then s else f s) = t := Host.Outcome.next.inj h
  split
  · exact .same
  · exact hf

theorem Decoder.move_of_eq {d d' : Decoder} (edge : Option Candidate) (h : d' = d) : d.Move edge d' := h ▸ .same

/-- A delivered frame changes the decoder only as a CLEAR of the station's scope or as a RESTART (R22, R174). -/
theorem State.deliver_move {s u : State} (hu : u.decoder = s.decoder) (f : Frame) (straps : Straps) :
    s.decoder.Move s.filters.crank.candidate (u.deliver f straps).decoder := by
  unfold State.deliver
  cases frameUse f with
  | clear w =>
    simp only [State.takeClear_decoder, hu]
    split
    · exact .clear
    · exact .same
  | restart =>
    simp only [State.takeRestart]
    split
    · exact .reset
    · exact Decoder.move_of_eq _ hu
  | target | status | unused => exact Decoder.move_of_eq _ hu
  | engine | config | close => exact Decoder.move_of_eq _ (by simpa using hu)

theorem State.receive_move (s : State) (f : Frame) (straps : Straps) :
    s.decoder.Move s.filters.crank.candidate (s.receive f straps).decoder := by
  simp only [State.receive]
  split
  · split
    · exact Decoder.move_of_eq _ (by simp)
    · split
      · exact State.deliver_move (by simp) f straps
      · exact Decoder.move_of_eq _ (by simp)
  · exact .same

/-- A delivered edge changes the decoder as a crank or a cam edge; a crank edge is the open candidate's (R2, R15). -/
theorem State.deliverEdge_move {s u : State} (hu : u.decoder = s.decoder) {pin : AnglePin} {c : Candidate}
    (hc : (s.filters.get pin).candidate = some c) (order : List CycleBlock) :
    s.decoder.Move s.filters.crank.candidate (u.deliverEdge pin c.stamp order).decoder := by
  rw [← hu]
  cases pin with
  | crank => exact .crank hc (u.crankEdge_move c.stamp order)
  | camA => exact .cam (u.camEdge_move .a c.stamp)
  | camB => exact .cam (u.camEdge_move .b c.stamp)

theorem execFilterTimeExpiry_move {s t : State} {pin : AnglePin} {order : List CycleBlock}
    (h : execFilterTimeExpiry pin order s = .next t) : s.decoder.Move s.filters.crank.candidate t.decoder := by
  refine act_move h ?_
  split
  · exact .same
  · next c hc =>
    simp only
    split
    · exact Decoder.move_of_eq _ (by simp)
    · exact State.deliverEdge_move (by simp) hc order

theorem execPowerOnReset_move {s t : State} {edge : SupplyEdge} {pins : StrapPins}
    (h : execPowerOnReset edge pins s = .next t) : s.decoder.Move s.filters.crank.candidate t.decoder := by
  cases edge with
  | falls => cases h; exact .reset
  | rises =>
    obtain rfl := Host.Outcome.next.inj h
    split
    · exact .reset
    · exact .same

@[simp] theorem State.tripDriver_decoder (s : State) (ch : Channel) : (s.tripDriver ch).decoder = s.decoder := by
  simp [State.tripDriver]

@[simp] theorem State.discard_decoder (s : State) (bits : List Bool) : (s.discard bits).decoder = s.decoder := by
  unfold State.discard
  split <;> simp

@[simp] theorem State.loseArbitration_decoder (s : State) (bit : Nat) :
    (s.loseArbitration bit).decoder = s.decoder := by
  unfold State.loseArbitration
  split <;> simp

@[simp] theorem State.failBit_decoder (s : State) (bit : Nat) : (s.failBit bit).decoder = s.decoder := by
  unfold State.failBit
  split <;> simp

theorem State.stall_decoder (s : State) :
    s.stall.decoder = if s.decoder.crank = .stopped then s.decoder else s.decoder.stall := by
  cases hc : s.decoder.crank <;> simp [State.stall, hc]

/-- How a command changes the decoder: the decoder's own commands and the frames by their rules, and every other command not at
all, since it reaches only operations that leave the decoder as it is. -/
theorem exec_move {c : Instr} {s t : State} (h : exec c s = .next t) :
    s.decoder.Move s.filters.crank.candidate t.decoder := by
  cases c with
  | powerOnReset edge pins => exact execPowerOnReset_move h
  | filterTimeExpiry pin order => exact execFilterTimeExpiry_move h
  | stallTimerExpiry =>
    refine act_move h ?_
    split
    · rw [State.stall_decoder]
      split
      · exact Decoder.move_of_eq _ (by simp)
      · simpa using Decoder.Move.stall
    · exact .same
  | crankUnstable =>
    refine act_move h ?_
    split
    · next hc => rw [State.countLoss_decoder]; exact .loss hc.1
    · exact .same
  | lossFreeRunExpiry =>
    refine act_move h ?_
    split
    · exact .clean
    · exact .same
  | target | status | engine | clear | config | close | restart | faultFrameReceived =>
    exact act_move h (State.receive_move _ _ _)
  | framePassedOver f | addressClash f =>
    refine act_move h ?_
    split
    · exact State.receive_move _ _ _
    · exact .same
  | parkPinChange => cases h; exact .same
  | _ =>
    dsimp only [exec, execFilterCandidateOpen, execGlitch, execCamLost, execCamNoise, execTargetStale, execOilReady,
      execOilLow, execPeerEntryExpiry, execEngineStateStale, execParkRequestRecognised, execReleaseSuccess,
      execReleaseTimeout, execRetryHoldExpiry, execReturnArrival, execNoReturn, execNullTransfer,
      execTrackError, execPwmPeriodStart, execOnTimeEnd, execOvercurrent, execOpenCoilBlankingExpiry,
      execOpenCoil, execCurrentSample, execOilpSample, execOilpSensor, execVsupSample, execTdieSample,
      execFrameDiscarded, execLinkErrors, execLinkErrorsCleared, execSendStart, execLostArbitration,
      execBitError, execSlotDrop, execTransmissionComplete, execBusStuck, execBusStuckCleared,
      execStatusTimerExpiry, execFaultPulseExpiry, execStartBit] at h
    refine act_move h (Decoder.move_of_eq _ ?_)
    (repeat' split) <;> simp

/-- How a step changes the decoder. -/
theorem step_move {s t : State} (h : step s = .next t) : s.decoder.Move s.filters.crank.candidate t.decoder := by
  unfold step at h
  split at h
  · obtain rfl := Host.Outcome.next.inj h
    unfold State.idle
    split
    · exact .same
    · exact Decoder.move_of_eq _ (by simp)
  · have hmove := exec_move h
    exact hmove

/-! ### Every change keeps the items present and in range (R5) -/

/-- The presence and the ranges of the decoder's items (R5), but for the lower bound 1 of P_ref. -/
structure Decoder.Sound (d : Decoder) : Prop where
  tooth_present : d.tooth.isSome = d.crank.synced
  half_present : d.half.isSome = decide (d.crank = .cycleSync)
  pRef_present : d.crank.synced = true → d.pRef.isSome = true
  lastEdge_present : d.lastEdge.isSome = decide (d.crank ≠ .stopped)
  stall_running : d.stallRunning = decide (d.crank ≠ .stopped)
  pRef_stopped : d.crank = .stopped → d.pRef = none
  prevCam_unsynced : d.crank.synced = false → d.prevCam = Pair.both none
  tooth_le : ∀ i, d.tooth = some i → i ≤ 27
  prevCam_le : ∀ ch r, d.prevCam.get ch = some r → r ≤ 3599
  pRef_le : ∀ p, d.pRef = some p → p ≤ 1048575
  lossCounter_le : d.lossCounter ≤ 4
  lossFreeRun_le : d.lossFreeRun ≤ 255

theorem decoderSound_iff (s : State) : Safety.DecoderSound s ↔ s.decoder.Sound :=
  ⟨fun ⟨tooth, half, pRef, last, run, stopped, prev, toothLe, prevLe, pRefLe, loss, free⟩ =>
      ⟨tooth, half, pRef, last, run, stopped, prev, toothLe, prevLe, pRefLe, loss, free⟩,
    fun ⟨tooth, half, pRef, last, run, stopped, prev, toothLe, prevLe, pRefLe, loss, free⟩ =>
      ⟨tooth, half, pRef, last, run, stopped, prev, toothLe, prevLe, pRefLe, loss, free⟩⟩

theorem Decoder.atReset_sound : Decoder.atReset.Sound := by
  constructor <;> simp [Decoder.atReset, CrankState.synced]

theorem Decoder.interval_le (d : Decoder) (t : Tick) : d.interval t ≤ 1048575 := by
  unfold Decoder.interval satInterval
  split <;> omega

/-- A revolution angle lies in 0..3599 (R13). -/
theorem Decoder.revAngle_le {d : Decoder} (h : ∀ i, d.tooth = some i → i ≤ 27) (t : Tick) :
    d.revAngle t ≤ 3599 := by
  have hi : d.tooth.getD 0 ≤ 27 := by
    cases hd : d.tooth with
    | none => simp
    | some i => simpa using h i hd
  simp only [Decoder.revAngle, advanceCap]
  split <;> omega

theorem CrankState.ne_stopped_of_synced {c : CrankState} (hc : c.synced = true) : c ≠ .stopped := by
  rintro rfl; cases hc

section Sound

variable {d : Decoder} (h : d.Sound)
include h

theorem Decoder.Sound.countLoss : d.countLoss.Sound :=
  { h with lossCounter_le := bump_le 4 _, lossFreeRun_le := by simp [Decoder.countLoss] }

theorem Decoder.Sound.countCleanCycle : d.countCleanCycle.Sound := by
  have := h.lossCounter_le
  have := h.lossFreeRun_le
  rw [Decoder.countCleanCycle_eq]
  exact { h with lossCounter_le := by simp only; split <;> omega, lossFreeRun_le := by simp only; split <;> omega }

theorem Decoder.Sound.cycleReference : d.cycleReference.Sound :=
  { h.countCleanCycle with }

theorem Decoder.Sound.clearCounts : Decoder.Sound { d with lossCounter := 0, lossFreeRun := 0 } :=
  { h with lossCounter_le := by simp, lossFreeRun_le := by simp }

theorem Decoder.Sound.stall : d.stall.Sound := by
  constructor <;> simp [Decoder.stall, CrankState.synced, h.lossCounter_le, h.lossFreeRun_le]

theorem Decoder.Sound.toothError (t : Tick) : (d.toothError t).Sound := by
  constructor <;>
    simp [Decoder.toothError, Decoder.accept, CrankState.synced, h.lossCounter_le, h.lossFreeRun_le, d.interval_le t]

theorem Decoder.Sound.accept (hc : d.crank ≠ .stopped) (t : Tick) : (d.accept t).Sound :=
  { h with lastEdge_present := by simp [Decoder.accept, hc], stall_running := by simp [Decoder.accept, hc] }

theorem Decoder.Sound.withPRef (hc : d.crank ≠ .stopped) {p : Nat} (hp : p ≤ 1048575) :
    Decoder.Sound { d with pRef := some p } :=
  { h with
    pRef_present := fun _ => rfl
    pRef_stopped := fun hs => absurd hs hc
    pRef_le := fun _ hq => Option.some.inj hq ▸ hp }

theorem Decoder.Sound.withTooth (hc : d.crank.synced = true) {i : Nat} (hi : i ≤ 27) :
    Decoder.Sound { d with tooth := some i } :=
  { h with tooth_present := hc.symm, tooth_le := fun _ hj => Option.some.inj hj ▸ hi }

theorem Decoder.Sound.toothZero (hc : d.crank.synced = true) (t : Tick) : (d.toothZero t).Sound :=
  have hne := CrankState.ne_stopped_of_synced hc
  have hp : d.interval t / 3 ≤ 1048575 := (Nat.div_le_self _ _).trans (d.interval_le t)
  ((h.accept hne t).withTooth hc (Nat.zero_le 27)).withPRef hne hp

/-- A synchronised decoder may change between REV_SYNC and CYCLE_SYNC with its half. -/
theorem Decoder.Sound.withHalf (hc : d.crank.synced = true) {c : CrankState} (hsync : c.synced = true)
    {half : Option Half} (hh : half.isSome = decide (c = .cycleSync)) :
    Decoder.Sound { d with crank := c, half := half } := by
  have hne := CrankState.ne_stopped_of_synced hc
  have hne' := CrankState.ne_stopped_of_synced hsync
  exact
    { h with
      tooth_present := h.tooth_present.trans (hc.trans hsync.symm)
      half_present := hh
      pRef_present := fun _ => h.pRef_present hc
      lastEdge_present := h.lastEdge_present.trans (by simp [hne, hne'])
      stall_running := h.stall_running.trans (by simp [hne, hne'])
      pRef_stopped := fun hs => absurd hs hne'
      prevCam_unsynced := fun hs => absurd (hsync.symm.trans hs) (by decide) }

theorem Decoder.Sound.markCam (hc : d.crank.synced = true) (ch : Channel) (t : Tick) : (d.markCam ch t).Sound :=
  { h with
    prevCam_unsynced := fun hs => absurd (hc.symm.trans hs) (by decide)
    prevCam_le := fun c r hr => by
      simp only [Decoder.markCam, Pair.get_set] at hr
      split at hr
      · exact Option.some.inj hr ▸ Decoder.revAngle_le h.tooth_le t
      · exact h.prevCam_le c r hr }

/-- The first edge starts the search (R7). -/
theorem Decoder.Sound.firstEdge (hc : d.crank = .stopped) (t : Tick) :
    Decoder.Sound { d.accept t with crank := .gapSeek } :=
  { h with
    tooth_present := by simpa [Decoder.accept, hc, CrankState.synced] using h.tooth_present
    half_present := by simpa [Decoder.accept, hc] using h.half_present
    pRef_present := fun hs => by cases hs
    lastEdge_present := rfl
    stall_running := rfl
    pRef_stopped := fun hs => by cases hs
    prevCam_unsynced := fun _ => h.prevCam_unsynced (by rw [hc]; rfl) }

/-- The gap gains REV_SYNC (R8). -/
theorem Decoder.Sound.gainRevSync (t : Tick) :
    Decoder.Sound { d.toothZero t with crank := .revSync, half := none, prevCam := .both none } := by
  have := d.interval_le t
  constructor <;>
    simp [Decoder.toothZero, Decoder.accept, CrankState.synced, h.lossCounter_le, h.lossFreeRun_le]
  omega

theorem Decoder.Sound.crankMove {t : Tick} {d' : Decoder} (hm : d.CrankMove t d') : d'.Sound := by
  cases hm with
  | noise => exact h
  | first hc => exact h.firstEdge hc t
  | seek hc =>
    have hne : d.crank ≠ .stopped := by simp [hc]
    exact (h.accept hne t).withPRef hne (d.interval_le t)
  | gain hc => exact h.gainRevSync t
  | next hc hi =>
    have hne := CrankState.ne_stopped_of_synced hc
    exact ((h.accept hne t).withTooth hc (by omega)).withPRef hne (d.interval_le t)
  | revolution hc hh => exact (h.toothZero hc t).withHalf hc hc (hh.trans h.half_present)
  | cycle hc =>
    have hs : d.crank.synced = true := by rw [hc]; rfl
    exact ((h.toothZero hs t).withHalf hs hs (by simp [hc])).cycleReference
  | error => exact (h.toothError t).countLoss

theorem Decoder.Sound.camMove {ch : Channel} {t : Tick} {d' : Decoder} (hm : d.CamMove ch t d') : d'.Sound := by
  cases hm with
  | ignored => exact h
  | marked hc => exact h.markCam hc ch t
  | resolved hc half =>
    have hs : d.crank.synced = true := by rw [hc]; rfl
    exact (h.markCam hs ch t).withHalf hs rfl rfl
  | conflict hc =>
    have hs : d.crank.synced = true := by rw [hc]; rfl
    exact ((h.markCam hs ch t).withHalf (c := .revSync) (half := none) hs rfl rfl).countLoss

theorem Decoder.Sound.move {edge : Option Candidate} {d' : Decoder} (hm : d.Move edge d') : d'.Sound := by
  cases hm with
  | same => exact h
  | reset => exact Decoder.atReset_sound
  | crank hc hm => exact h.crankMove hm
  | cam hm => exact h.camMove hm
  | stall => exact h.stall
  | loss => exact h.countLoss
  | clean => exact h.countCleanCycle
  | clear => exact h.clearCounts

end Sound

/-! ### The lower bound of P_ref -/

/-- P_ref, where it is present, is not 0. -/
def Decoder.PRefPositive (d : Decoder) : Prop := ∀ p, d.pRef = some p → 1 ≤ p

/-- An edge at least three ticks after the last accepted one has an interval of three ticks or more. -/
theorem Decoder.three_le_interval {d : Decoder} {t : Tick} (h : ∀ t0, d.lastEdge = some t0 → 3 ≤ (t - t0).toNat) :
    3 ≤ d.interval t := by
  unfold Decoder.interval satInterval
  split
  · omega
  · next t0 ht0 => have := h t0 ht0; omega

theorem Decoder.pRefPositive_of_some {d : Decoder} {p : Nat} (hd : d.pRef = some p) (hp : 1 ≤ p) : d.PRefPositive :=
  fun _ hq => Option.some.inj (hd.symm.trans hq) ▸ hp

theorem Decoder.PRefPositive.crankMove {d d' : Decoder} {t : Tick} (h : d.PRefPositive) (hm : d.CrankMove t d')
    (ht : 3 ≤ d.interval t) : d'.PRefPositive := by
  have hlong : 1 ≤ d.interval t := by omega
  have hgap : 1 ≤ d.interval t / 3 := by omega
  cases hm with
  | noise => exact h
  | first => exact h
  | seek => exact Decoder.pRefPositive_of_some rfl hlong
  | gain => exact Decoder.pRefPositive_of_some rfl hgap
  | next => exact Decoder.pRefPositive_of_some rfl hlong
  | revolution => exact Decoder.pRefPositive_of_some rfl hgap
  | cycle => exact Decoder.pRefPositive_of_some (by rw [Decoder.cycleReference, Decoder.countCleanCycle_eq]; rfl) hgap
  | error => exact Decoder.pRefPositive_of_some rfl hlong

theorem Decoder.PRefPositive.camMove {d d' : Decoder} {ch : Channel} {t : Tick} (h : d.PRefPositive)
    (hm : d.CamMove ch t d') : d'.PRefPositive := by
  cases hm <;> exact h

theorem Decoder.PRefPositive.move {d d' : Decoder} {edge : Option Candidate} (h : d.PRefPositive)
    (hm : d.Move edge d')
    (hedge : ∀ c t0, edge = some c → d.lastEdge = some t0 → 3 ≤ (c.stamp - t0).toNat) : d'.PRefPositive := by
  cases hm with
  | same => exact h
  | reset => intro p hp; cases hp
  | crank hc hm => exact h.crankMove hm (Decoder.three_le_interval fun t0 ht0 => hedge _ t0 hc ht0)
  | cam hm => exact h.camMove hm
  | stall => intro p hp; cases hp
  | loss => exact h
  | clean => rw [Decoder.countCleanCycle_eq]; exact h
  | clear => exact h

/-- Settles O56: each way a step can change the decoder keeps its items, and the bound of P_ref with edges that lie apart. -/
theorem decoderItemsKept : Obligations.DecoderItemsKept := by
  intro s t hs hstep
  have hmove := step_move hstep
  exact ⟨(decoderSound_iff t).2 (((decoderSound_iff s).1 hs).move hmove),
    fun hp hedge => Decoder.PRefPositive.move hp hmove hedge⟩

end Sys2Proof.Machine
end

section
/-! PROOF. What the cam supervision latches (O10), the cam edges at the decoder and the meter (O12), and park learning with the
meter's cycle reference (O13). -/

namespace Sys2Proof.Machine

/-! ### Cam loss and cam noise (R37 to R39) -/

/-- A revolution complete that leaves the missing-edge count at 4 (R38, R39). -/
theorem State.revolutionTest_of_lost {s : State} {ch : Channel} (h : (s.meters.get ch).missingAfterTest = 4) :
    s.revolutionTest ch =
      (s.modMeter ch fun m => { m with missing := 4, edgeSeen := false }).latchChannel ch .camLost := by
  simp [State.revolutionTest, h]

/-- The noise test: the count becomes 0, and from 4 on CAM_NOISE latches (R37). -/
theorem State.noiseTest_eq (s : State) (ch : Channel) :
    s.noiseTest ch =
      if 4 ≤ (s.meters.get ch).strayCount then
        (s.modMeter ch fun m => { m with strayCount := 0 }).latchChannel ch .camNoise
      else s.modMeter ch fun m => { m with strayCount := 0 } := by
  simp [State.noiseTest]

/-- Settles O10: the two commands are the meter's revolution test and noise test where these latch. -/
theorem camSupervision : Obligations.CamSupervision := by
  intro ch s hs
  refine ⟨fun hc hm => ?_, fun hc hn => ?_⟩
  · have hsync : s.decoder.crank.synced = true := (CrankState.synced_iff _).2 hc
    have hlost : (s.meters.get ch).missingAfterTest = 4 := hm
    simp only [exec, execCamLost, act_of_live hs, hsync, hlost, and_self, if_true, State.revolutionTest_of_lost hlost]
  · simp only [exec, execCamNoise, act_of_live hs, hc, hn, and_self, if_true, State.noiseTest_eq]

/-! ### The measured edge (R27 to R29) -/

section MeasuredEdge

variable {s : State} {ch : Channel} {angle : Nat}

/-- An edge that no tooth's expected angle matches is a stray (R27). -/
theorem State.measureEdge_of_unassigned (h : (s.meters.get ch).assign ch s.straps.role angle = none) :
    s.measureEdge ch angle = s.modMeter ch Meter.countStray := by
  simp [State.measureEdge, h]

variable {k : Tooth} (hk : (s.meters.get ch).assign ch s.straps.role angle = some k)
include hk

/-- A second edge of a tooth in one cycle is a stray (R27). -/
theorem State.measureEdge_of_taken (hv : ((s.meters.get ch).ring.get k).valid = true) :
    s.measureEdge ch angle = s.modMeter ch Meter.countStray := by
  simp [State.measureEdge, hk, hv]

/-- The first edge of a tooth in a cycle writes the record and the estimate, and its phase goes on to the channel
(R27, R28, R29). -/
theorem State.measureEdge_of_first (hv : ((s.meters.get ch).ring.get k).valid = false) :
    s.measureEdge ch angle =
      (s.modMeter ch fun m =>
        m.record ch k s.decoder.cycleNumber (rawDeviation s.straps.role angle k)).phaseMeasured ch
          ((s.meters.get ch).edgePhase ch k (rawDeviation s.straps.role angle k)) := by
  simp [State.measureEdge, hk, hv]

end MeasuredEdge

/-- The sign of an edge phase by the channel (R28). -/
theorem Meter.edgePhase_eq (m : Meter) (ch : Channel) (k : Tooth) (raw : Int) :
    m.edgePhase ch k raw =
      wrapAngle
        (match ch with
        | .a => -(raw - m.parkOffset.getD 0 - m.corr.get k)
        | .b => raw - m.parkOffset.getD 0 - m.corr.get k) := by
  cases ch <;> simp [Meter.edgePhase, phaseSign]

/-! ### Cam edges by crank state (R13 to R19) -/

theorem isClosePair_iff (prev : Option Nat) (rev : Nat) :
    isClosePair prev rev = true ↔ ∃ q, prev = some q ∧ ((rev : Int) - q) % 3600 < 600 := by
  cases prev <;> simp [isClosePair]

/-- The revolution angle of a decoder that has its tooth, its last accepted edge and its P_ref (R13). -/
theorem Decoder.revAngle_of_some {d : Decoder} {i : Nat} {t0 : Tick} {p : Nat} (hi : d.tooth = some i)
    (h0 : d.lastEdge = some t0) (hp : d.pRef = some p) (t : Tick) :
    d.revAngle t = i * 120 + min (120 * elapsedSince t0 t / p) (advanceCap i) := by
  simp [Decoder.revAngle, hi, h0, hp]

theorem Decoder.cycleAngle_of_half {d : Decoder} {h : Half} (hc : d.crank = .cycleSync) (hh : d.half = some h)
    (rev : Nat) : d.cycleAngle rev = some (h.toNat * 3600 + rev) := by
  simp [Decoder.cycleAngle, hc, hh]

/-- The state with a cam's previous edge angle renewed (R17). -/
def State.markCam (s : State) (ch : Channel) (rev : Nat) : State :=
  s.modDecoder fun d => { d with prevCam := d.prevCam.set ch (some rev) }

section CamEdges

variable {s : State} {ch : Channel} {t : Tick}

theorem State.camEdge_of_unsynced (hc : s.decoder.crank.synced = false) : s.camEdge ch t = s := by
  cases h : s.decoder.crank with
  | stopped => simp [State.camEdge, h]
  | gapSeek => simp [State.camEdge, h]
  | revSync => rw [h] at hc; cases hc
  | cycleSync => rw [h] at hc; cases hc

/-- In REV_SYNC an edge that is no later edge of a close pair is seen and resolves nothing (R17, R25). -/
theorem State.camEdge_of_single (hc : s.decoder.crank = .revSync)
    (hp : isClosePair (s.decoder.prevCam.get ch) (s.decoder.revAngle t) = false) :
    s.camEdge ch t = (s.markCam ch (s.decoder.revAngle t)).captureEdge ch none := by
  simp [State.camEdge, State.markCam, hc, hp]

/-- In REV_SYNC the later edge of a close pair resolves the half, and is measured in it (R18). -/
theorem State.camEdge_of_pair (hc : s.decoder.crank = .revSync)
    (hp : isClosePair (s.decoder.prevCam.get ch) (s.decoder.revAngle t) = true) :
    s.camEdge ch t =
      ((s.markCam ch (s.decoder.revAngle t)).modDecoder fun d =>
        { d with crank := .cycleSync, half := some (closePairHalf s.straps.role) }).publishCycleSync.captureEdge ch
          (some ((closePairHalf s.straps.role).toNat * 3600 + s.decoder.revAngle t)) := by
  simp [State.camEdge, State.markCam, hc, hp, Decoder.cycleAngle]

variable {h : Half} (hc : s.decoder.crank = .cycleSync) (hh : s.decoder.half = some h)
include hc hh

/-- In CYCLE_SYNC an edge that does not contradict the half is measured in it (R19). -/
theorem State.camEdge_of_agreeing
    (hp : ¬(isClosePair (s.decoder.prevCam.get ch) (s.decoder.revAngle t) = true ∧ h ≠ closePairHalf s.straps.role)) :
    s.camEdge ch t =
      (s.markCam ch (s.decoder.revAngle t)).captureEdge ch (some (h.toNat * 3600 + s.decoder.revAngle t)) := by
  have hangle := Decoder.cycleAngle_of_half (d := (s.markCam ch (s.decoder.revAngle t)).decoder) hc hh
    (s.decoder.revAngle t)
  rw [← hangle]
  simp [State.camEdge, State.markCam, hc, hh, hp]

/-- HALF_CONFLICT: in CYCLE_SYNC the later edge of a close pair lies in the wrong half (R19). -/
theorem State.camEdge_of_conflict
    (hp : isClosePair (s.decoder.prevCam.get ch) (s.decoder.revAngle t) = true)
    (hw : h ≠ closePairHalf s.straps.role) :
    s.camEdge ch t =
      (((s.markCam ch (s.decoder.revAngle t)).modDecoder
        Decoder.halfConflict).publishSyncLost.captureEdge ch none).countLoss := by
  simp [State.camEdge, State.markCam, hc, hh, hp, hw]

end CamEdges

/-- Settles O12: the edge at the meter by its assignment, and at the decoder by the crank state and the close-pair test. -/
theorem edgeMeasured : Obligations.EdgeMeasured := by
  intro ch angle t s m d stray rev pairHalf cycleAngle close marked seen
  have hclose : isClosePair (d.prevCam.get ch) rev = true ↔ close := isClosePair_iff _ _
  have hangle : ∀ h : Half, h.toNat * 3600 + rev = cycleAngle h := by
    intro h; cases h <;> simp [Half.toNat, cycleAngle]
  refine ⟨State.measureEdge_of_unassigned, fun k hk => ⟨State.measureEdge_of_taken hk, fun hv => ?_⟩,
    fun i t0 p hi h0 hp => Decoder.revAngle_of_some hi h0 hp t, fun hc => ?_, fun hc hp => ?_, fun hc hp => ?_,
    fun h hc hh => ⟨fun hp => ?_, fun hp hw => ?_⟩⟩
  · intro raw corrected phase
    have hphase : m.edgePhase ch k raw = phase := m.edgePhase_eq ch k raw
    rw [State.measureEdge_of_first hk hv, ← hphase]
    rfl
  · refine State.camEdge_of_unsynced ?_
    rcases hc with h | h <;> rw [h] <;> rfl
  · exact State.camEdge_of_single hc (Bool.eq_false_iff.2 (mt hclose.1 hp))
  · rw [State.camEdge_of_pair hc (hclose.2 hp), hangle]
    rfl
  · rw [State.camEdge_of_agreeing hc hh fun hpair => hp ⟨hclose.1 hpair.1, hpair.2⟩, hangle]
    rfl
  · exact State.camEdge_of_conflict hc hh (hclose.2 hp) hw

/-! ### Park learning (R31 to R34) -/

theorem Meter.ringComplete_iff (m : Meter) (ended : Word16) :
    m.ringComplete ended = true ↔ ∀ k, (m.ring.get k).valid = true ∧ (m.ring.get k).cycle = ended := by
  constructor
  · intro h k
    simp only [Meter.ringComplete, RingRecord.ofCycle, Bool.and_eq_true, decide_eq_true_eq] at h
    cases k <;> simp [PerTooth.get, h]
  · intro h
    have h0 := h .e0
    have h1 := h .e1
    have h2 := h .e2
    have h3 := h .e3
    have h4 := h .e4
    simp_all [Meter.ringComplete, RingRecord.ofCycle, PerTooth.get]

/-- When the cycle just ended teaches (R32). -/
theorem State.teaches_iff (s : State) (ch : Channel) :
    s.teaches ch = true ↔
      (s.meters.get ch).parkWatch = true ∧ s.channelState ch = .parked ∧ (s.meters.get ch).strayCount = 0 ∧
        ∀ k, ((s.meters.get ch).ring.get k).valid = true ∧
          ((s.meters.get ch).ring.get k).cycle = s.decoder.cycleNumber - 1 := by
  rw [← Meter.ringComplete_iff]
  simp only [State.teaches, Bool.and_eq_true, decide_eq_true_eq]
  tauto

section Learning

variable {s : State} {ch : Channel}

theorem State.parkLearning_of_not_teaching (h : s.teaches ch = false) : s.parkLearning ch = s := by
  simp [State.parkLearning, h]

theorem State.parkLearning_of_outside (h : s.teaches ch = true)
    (hm : ¬(-100 ≤ (s.meters.get ch).meanDeviation ∧ (s.meters.get ch).meanDeviation ≤ 100)) :
    s.parkLearning ch = s.latchChannel ch .parkOffsetRange := by
  simp [State.parkLearning, h, hm]

theorem State.parkLearning_of_inside (h : s.teaches ch = true) (hlo : -100 ≤ (s.meters.get ch).meanDeviation)
    (hhi : (s.meters.get ch).meanDeviation ≤ 100) :
    s.parkLearning ch = s.modMeter ch fun m => m.learn (s.meters.get ch).meanDeviation := by
  simp [State.parkLearning, h, hlo, hhi]

end Learning

/-- Learning changes the offset and the corrections alone. -/
theorem Meter.learn_frame (m : Meter) (mean : Int) :
    m.learn mean = { m with parkOffset := (m.learn mean).parkOffset, corr := (m.learn mean).corr } := by
  unfold Meter.learn
  cases m.parkOffset <;> rfl

/-- Acquisition (R33). -/
theorem Meter.learn_acquires {m : Meter} (h : m.parkOffset = none) (mean : Int) :
    (m.learn mean).parkOffset = some mean ∧
      ∀ k, (m.learn mean).corr.get k = limit (-30) 30 ((m.ring.get k).raw - mean) := by
  simp [Meter.learn, h]

/-- One learning step (R34). -/
theorem Meter.learn_steps {m : Meter} {o : Int} (h : m.parkOffset = some o) (mean : Int) :
    (m.learn mean).parkOffset = some (stepToward 1 mean o) ∧
      ∀ k, (m.learn mean).corr.get k = limit (-30) 30 (stepToward 1 ((m.ring.get k).raw - mean) (m.corr.get k)) := by
  simp [Meter.learn, h]

/-- The park-watch flag and the noise test of one cycle reference change the meter at once (R31, R37). -/
theorem State.noiseTest_watchPark (s : State) (ch : Channel) :
    (s.watchPark ch).noiseTest ch =
      let watched := s.modMeter ch fun m =>
        { m with parkWatch := decide (s.channelState ch = .parked), strayCount := 0 }
      if 4 ≤ (s.meters.get ch).strayCount then watched.latchChannel ch .camNoise else watched := by
  simp [State.noiseTest_eq, State.watchPark, State.modMeter]

/-- Settles O13: learning by whether the cycle teaches and by the mean, and the meter's order at the cycle reference. -/
theorem parkLearning : Obligations.ParkLearning := by
  intro ch s m mean teaches learned watched tested
  have hteaches : s.teaches ch = true ↔ teaches := s.teaches_iff ch
  refine ⟨fun h => ?_, fun h hm => ?_, fun h hlo hhi => ?_, ?_⟩
  · exact State.parkLearning_of_not_teaching (Bool.eq_false_iff.2 (mt hteaches.1 h))
  · exact State.parkLearning_of_outside (hteaches.2 h) hm
  · exact ⟨m.learn mean, State.parkLearning_of_inside (hteaches.2 h) hlo hhi, m.learn_frame mean,
      fun hn => Meter.learn_acquires hn mean, fun o ho => Meter.learn_steps ho mean⟩
  · refine ⟨(tested.meters.get ch).invalidateRing.ring, ?_, fun k => by simp [Meter.invalidateRing]⟩
    have htested : (learned.watchPark ch).noiseTest ch = tested := learned.noiseTest_watchPark ch
    simp only [State.meterCycleReference, State.modMeter, Meter.invalidateRing, htested, learned]

end Sys2Proof.Machine
end

section
/-! PROOF. What a change of channel state and a new command do elsewhere, and the exits of running channels to RETURNING as
equations between whole states (O21). -/

namespace Sys2Proof.Machine

/-! ### A change of channel state and a new command (R31, R49, R75, R126) -/

section ChannelChange

variable (s : State) (ch : Channel)

/-- A change of channel state changes nothing of the target unit but the effective targets (R49). -/
theorem State.setChannelState_target (new : ChannelState) :
    (s.setChannelState ch new).target =
      { s.target with effective := (s.setChannelState ch new).target.effective } := by
  cases new <;> simp only [State.setChannelState] <;> repeat' split
  all_goals simp

/-- The meters after a change of channel state: a channel that leaves PARKED has its park-watch flag clear (R31). -/
theorem State.setChannelState_meters (new : ChannelState) :
    (s.setChannelState ch new).meters =
      if s.channelState ch = .parked ∧ new ≠ .parked then
        s.meters.set ch { s.meters.get ch with parkWatch := false }
      else s.meters := by
  cases new <;> simp only [State.setChannelState] <;> repeat' split
  all_goals simp_all

/-- A new command starts the blanking where it rises to 200 mA or more (R126). -/
theorem State.setCommand_blanking (i : Nat) :
    (s.setCommand ch i).timers.blanking.get ch =
      if s.command ch < 200 ∧ 200 ≤ i then some 0 else s.timers.blanking.get ch := by
  simp only [State.setCommand]
  split <;> simp [State.startBlanking]

/-- The sequencer after an entry to RETURNING, out of CYCLE_SYNC on to PARKED (R88, R91). -/
theorem State.enterReturning_sequencers :
    (s.enterReturning ch).sequencers =
      s.sequencers.set ch
        { s.sequencers.get ch with
          state := if s.decoder.crank = .cycleSync then .returning else .parked
          returnCount := 0
          returnRun := 0 } := by
  by_cases hc : s.decoder.crank = .cycleSync <;>
    simp [State.enterReturning, State.setChannelState_sequencers, hc]

theorem State.enterReturning_command : (s.enterReturning ch).command ch = 0 := by
  simp only [State.enterReturning]
  split
  · exact (s.setChannelState_command ch ch .returning).trans (by simp [ChannelState.running])
  · rw [State.setChannelState_command]
    simp [ChannelState.running]

end ChannelChange

/-! ### The exits from RELEASING and TRACKING (R77, R88, R91) -/

/-- Entry to RETURNING of a running channel: the command and the duty are 0, the output is off, and a channel that leaves
TRACKING has its effective target at 0 (R49, R75, R88, R91). -/
theorem State.enterReturning_of_running {s : State} {ch : Channel} (hr : (s.channelState ch).running = true) :
    s.enterReturning ch =
      { s with
        sequencers :=
          s.sequencers.set ch
            { s.sequencers.get ch with
              state := if s.decoder.crank = .cycleSync then .returning else .parked
              returnCount := 0
              returnRun := 0 }
        controllers := s.controllers.set ch { s.controllers.get ch with command := 0 }
        drivers := s.drivers.set ch { s.drivers.get ch with duty := 0, saturated := false, output := false }
        target :=
          { s.target with
            effective :=
              s.target.effective.set ch (effectiveAtSyncLoss (s.channelState ch) (s.target.effective.get ch)) } } := by
  by_cases hc : s.decoder.crank = .cycleSync
  · have hold : s.channelState ch ≠ .parked := by intro h; rw [h] at hr; cases hr
    rw [State.enterReturning, State.setChannelState_stops rfl fun h => absurd h hold]
    simp [State.modSequencer, hc, effectiveAtSyncLoss]
  · simp only [State.enterReturning_without_sync hc hr, hc, if_false]

section Exits

variable (s : State) (ch : Channel)

/-- The sequencer after an exit, out of CYCLE_SYNC on to PARKED (R88, R91). -/
def State.sequencerAfterExit : Sequencer :=
  if (s.channelState ch).running then
    { s.sequencers.get ch with
      state := if s.decoder.crank = .cycleSync then .returning else .parked
      returnCount := 0
      returnRun := 0 }
  else s.sequencers.get ch

/-- The controller after an exit: all but the command stays (R75, R116). -/
def State.controllerAfterExit : Controller :=
  if (s.channelState ch).running then { s.controllers.get ch with command := 0 } else s.controllers.get ch

/-- The driver after an exit: a command of 0 has turned it off (R120, R121). -/
def State.driverAfterExit : Driver :=
  if (s.channelState ch).running then { s.drivers.get ch with duty := 0, saturated := false, output := false }
  else s.drivers.get ch

/-- The effective target after an exit; outside TRACKING it stays. -/
def State.effectiveAfterExit : Int := effectiveAtSyncLoss (s.channelState ch) (s.target.effective.get ch)

theorem effectiveAtSyncLoss_of_not_running {c : ChannelState} (h : c.running = false) (f : Int) :
    effectiveAtSyncLoss c f = f := by
  have hc : c ≠ .tracking := by rintro rfl; cases h
  simp [effectiveAtSyncLoss, hc]

theorem State.exitRunning_eq :
    s.exitRunning ch =
      { s with
        sequencers := s.sequencers.set ch (s.sequencerAfterExit ch)
        controllers := s.controllers.set ch (s.controllerAfterExit ch)
        drivers := s.drivers.set ch (s.driverAfterExit ch)
        target := { s.target with effective := s.target.effective.set ch (s.effectiveAfterExit ch) } } := by
  cases hr : (s.channelState ch).running
  · simp [State.exitRunning, State.sequencerAfterExit, State.controllerAfterExit, State.driverAfterExit,
      State.effectiveAfterExit, effectiveAtSyncLoss_of_not_running hr, hr]
  · simp [State.exitRunning, State.enterReturning_of_running hr, State.sequencerAfterExit, State.controllerAfterExit,
      State.driverAfterExit, State.effectiveAfterExit, hr]

/-- The exits of both channels: each channel's by itself, and nothing else (R77). -/
theorem State.returnRunning_eq :
    s.returnRunning =
      { s with
        sequencers := ⟨s.sequencerAfterExit .a, s.sequencerAfterExit .b⟩
        controllers := ⟨s.controllerAfterExit .a, s.controllerAfterExit .b⟩
        drivers := ⟨s.driverAfterExit .a, s.driverAfterExit .b⟩
        target := { s.target with effective := ⟨s.effectiveAfterExit .a, s.effectiveAfterExit .b⟩ } } := by
  simp only [State.returnRunning, State.eachChannel_def, State.exitRunning_eq]
  rfl

/-- Each channel's items after the exits. -/
theorem State.returnRunning_channel :
    s.returnRunning.sequencers.get ch = s.sequencerAfterExit ch ∧
      s.returnRunning.controllers.get ch = s.controllerAfterExit ch ∧
      s.returnRunning.drivers.get ch = s.driverAfterExit ch ∧
      s.returnRunning.target.effective.get ch = s.effectiveAfterExit ch := by
  rw [State.returnRunning_eq]
  cases ch <;> exact ⟨rfl, rfl, rfl, rfl⟩

end Exits

/-- Settles O21: the change of state and the command item by item, and the exits as an equation between whole states. -/
theorem stateChangeEffects : Obligations.StateChangeEffects := by
  intro ch s
  refine ⟨fun new => ?_, fun i => ⟨?_, s.setCommand_blanking ch i⟩, ?_, ?_⟩
  · refine ⟨?_, ?_, fun hn => ?_, fun hn => ?_, ?_, fun ht hn => ?_, fun hp hn => ?_, ?_, ?_⟩
    · simp [State.setChannelState_state]
    · simp [State.setChannelState_state, otherChannel_ne]
    · simp [State.setChannelState_command, hn]
    · simp [State.setChannelState_command, hn]
    · simp [State.setChannelState_command, otherChannel_ne]
    · simp [State.setChannelState_effective, ht, hn]
    · simp [State.setChannelState_meters, hp, hn]
    · rw [State.setChannelState_target]
    · rw [State.setChannelState_target]
  · simp [State.setCommand_command]
  · refine ⟨?_, s.enterReturning_command ch, ?_, ?_, ?_, ?_, ?_⟩
    · simp [State.enterReturning_state]
    · simp [State.enterReturning_sequencers]
    · simp [State.enterReturning_sequencers]
    · simp [State.enterReturning_sequencers]
    · simp [State.enterReturning_sequencers]
    · simp [State.enterReturning_state, otherChannel_ne]
  · obtain ⟨hsequencer, hcontroller, hdriver, htarget⟩ := s.returnRunning_channel ch
    refine ⟨fun hr => ?_, fun hr => ?_, ?_⟩
    · rw [hsequencer, hcontroller, hdriver, htarget]
      simp only [State.sequencerAfterExit, State.controllerAfterExit, State.driverAfterExit, hr, if_true, true_and]
      rfl
    · rw [hsequencer, hcontroller, hdriver, htarget]
      simp [State.sequencerAfterExit, State.controllerAfterExit, State.driverAfterExit, State.effectiveAfterExit, hr,
        effectiveAtSyncLoss_of_not_running hr]
    · rw [State.returnRunning_eq]

end Sys2Proof.Machine
end

section
/-! PROOF. The phase meters' items under every step (O57): the ranges of a meter by itself, what ties its estimate and its
park-watch flag to the crank and the channel, and that each block's operations keep both. -/

namespace Sys2Proof.Machine

/-! ### A meter by itself (R24, R34) -/

/-- The ranges of a meter's items (R24). -/
structure Meter.InRange (m : Meter) : Prop where
  parkOffset : ∀ o, m.parkOffset = some o → -100 ≤ o ∧ o ≤ 100
  corr : ∀ k, -30 ≤ m.corr.get k ∧ m.corr.get k ≤ 30
  raw : ∀ k, -3600 ≤ (m.ring.get k).raw ∧ (m.ring.get k).raw ≤ 3599
  estimate : ∀ p, m.estimate = some p → -3600 ≤ p ∧ p ≤ 3599
  stray : m.strayCount ≤ 255
  missing : m.missing ≤ 4

/-- A meter's items agree with the crank state and its channel's state: in range, the estimate present only in CYCLE_SYNC (R40),
and the park-watch flag set only in CYCLE_SYNC with the channel PARKED (R31). -/
structure Meter.Sound (m : Meter) (crank : CrankState) (channel : ChannelState) : Prop extends m.InRange where
  estimate_synced : m.estimate.isSome = true → crank = .cycleSync
  watch_parked : m.parkWatch = true → crank = .cycleSync ∧ channel = .parked

theorem PerTooth.get_set {α : Type} (r : PerTooth α) (k j : Tooth) (v : α) :
    (r.set k v).get j = if j = k then v else r.get j := by
  cases k <;> cases j <;> rfl

theorem stepToward_bounds {lo hi n target x : Int} (hn : 0 ≤ n) (ht : lo ≤ target ∧ target ≤ hi)
    (hx : lo ≤ x ∧ x ≤ hi) : lo ≤ stepToward n target x ∧ stepToward n target x ≤ hi := by
  unfold stepToward
  split <;> omega

theorem Meter.atReset_sound (crank : CrankState) (channel : ChannelState) : Meter.atReset.Sound crank channel where
  parkOffset := fun o ho => by cases ho
  corr := fun k => by cases k <;> decide
  raw := fun k => by cases k <;> decide
  estimate := fun p hp => by cases hp
  stray := by decide
  missing := by decide
  estimate_synced := fun he => by cases he
  watch_parked := fun hw => by cases hw

section MeterOperations

variable {m : Meter}

theorem Meter.InRange.learn (h : m.InRange) {mean : Int} (hm : -100 ≤ mean ∧ mean ≤ 100) : (m.learn mean).InRange := by
  have hcorr : ∀ x, -30 ≤ limit (-30) 30 x ∧ limit (-30) 30 x ≤ 30 := limit_bounds (by decide)
  rw [Meter.learn_frame]
  cases ho : m.parkOffset with
  | none =>
    obtain ⟨hoffset, hcorrs⟩ := Meter.learn_acquires ho mean
    exact { h with
      parkOffset := fun o he => Option.some.inj (hoffset.symm.trans he) ▸ hm
      corr := fun k => by simpa only [hcorrs] using hcorr _ }
  | some offset =>
    obtain ⟨hoffset, hcorrs⟩ := Meter.learn_steps ho mean
    exact { h with
      parkOffset := fun o he =>
        Option.some.inj (hoffset.symm.trans he) ▸ stepToward_bounds (by decide) hm (h.parkOffset offset ho)
      corr := fun k => by simpa only [hcorrs] using hcorr _ }

variable {crank : CrankState} {channel : ChannelState} (h : m.Sound crank channel)
include h

/-- Out of CYCLE_SYNC a meter has no estimate and no park-watch flag, and agrees with every other state. -/
theorem Meter.Sound.of_unsynced (hc : crank ≠ .cycleSync) (crank' : CrankState) (channel' : ChannelState) :
    m.Sound crank' channel' :=
  { h with
    estimate_synced := fun he => absurd (h.estimate_synced he) hc
    watch_parked := fun hw => absurd (h.watch_parked hw).1 hc }

theorem Meter.Sound.ofChannel {channel' : ChannelState} (hp : channel = .parked → channel' = .parked) :
    m.Sound crank channel' :=
  { h with watch_parked := fun hw => ⟨(h.watch_parked hw).1, hp (h.watch_parked hw).2⟩ }

/-- A meter whose park-watch flag is clear agrees with every state of its channel. -/
theorem Meter.Sound.unwatched (channel' : ChannelState) : Meter.Sound { m with parkWatch := false } crank channel' :=
  { h with watch_parked := fun hw => by cases hw }

theorem Meter.Sound.countStray : m.countStray.Sound crank channel := { h with stray := bump_le 255 _ }

theorem Meter.Sound.clearStrays : Meter.Sound { m with strayCount := 0 } crank channel := { h with stray := by simp }

theorem Meter.Sound.seen : Meter.Sound { m with edgeSeen := true, missing := 0 } crank channel :=
  { h with missing := by simp }

theorem Meter.Sound.unseen : Meter.Sound { m with edgeSeen := false } crank channel := { h with }

theorem Meter.Sound.tested : Meter.Sound { m with missing := m.missingAfterTest, edgeSeen := false } crank channel :=
  { h with
    missing := by
      have := h.missing
      have := bump_le 4 m.missing
      simp only [Meter.missingAfterTest]
      split <;> omega }

theorem Meter.Sound.invalidateRing : m.invalidateRing.Sound crank channel :=
  { h with raw := fun k => by simpa [Meter.invalidateRing] using h.raw k }

theorem Meter.Sound.relearn : m.relearn.Sound crank channel :=
  { h with
    parkOffset := fun o ho => by cases ho
    corr := fun k => by cases k <;> simp [Meter.relearn, PerTooth.get] }

theorem Meter.Sound.watch (hc : crank = .cycleSync) :
    Meter.Sound { m with parkWatch := decide (channel = .parked) } crank channel :=
  { h with watch_parked := fun hw => ⟨hc, of_decide_eq_true hw⟩ }

theorem Meter.Sound.learn {mean : Int} (hm : -100 ≤ mean ∧ mean ≤ 100) : (m.learn mean).Sound crank channel := by
  have hr := h.toInRange.learn hm
  rw [Meter.learn_frame] at hr ⊢
  exact { hr with estimate_synced := h.estimate_synced, watch_parked := h.watch_parked }

theorem Meter.Sound.record (hc : crank = .cycleSync) (ch : Channel) (k : Tooth) (cycle : Word16) {raw : Int}
    (hr : -3600 ≤ raw ∧ raw ≤ 3599) : (m.record ch k cycle raw).Sound crank channel :=
  { h with
    raw := fun j => by
      simp only [Meter.record, PerTooth.get_set]
      split
      · exact hr
      · exact h.raw j
    estimate := fun p hp => Option.some.inj hp ▸ wrapAngle_bounds _
    estimate_synced := fun _ => hc }

end MeterOperations

/-- "Sync lost" leaves a meter that agrees with every state (R40). -/
theorem Meter.InRange.syncLost {m : Meter} (h : m.InRange) (crank : CrankState) (channel : ChannelState) :
    m.syncLost.Sound crank channel :=
  { h with
    raw := fun k => by simpa [Meter.syncLost, Meter.invalidateRing] using h.raw k
    estimate := fun p hp => by cases hp
    stray := by simp [Meter.syncLost]
    estimate_synced := fun he => by cases he
    watch_parked := fun hw => by cases hw }

/-! ### Both meters in a state -/

/-- Both meters agree with the crank and with their channels. -/
def State.MetersSound (s : State) : Prop :=
  ∀ ch, (s.meters.get ch).Sound s.decoder.crank (s.channelState ch)

theorem metersSound_iff (s : State) : Safety.MeterSound s ↔ s.MetersSound := by
  refine forall_congr' fun ch => ⟨?_, ?_⟩
  · rintro ⟨offset, corr, raw, estimate, stray, missing, watch⟩
    exact
      { parkOffset := offset
        corr := corr
        raw := raw
        estimate := fun p hp => ⟨(estimate p hp).1, (estimate p hp).2.1⟩
        stray := stray
        missing := missing
        estimate_synced := fun he => (estimate _ (Option.some_get he).symm).2.2
        watch_parked := watch }
  · intro h
    exact ⟨h.parkOffset, h.corr, h.raw,
      fun p hp => ⟨(h.estimate p hp).1, (h.estimate p hp).2, h.estimate_synced (by simp [hp])⟩, h.stray, h.missing,
      h.watch_parked⟩

theorem State.metersSound_of_reset {s : State} (hm : s.meters = .both .atReset) : s.MetersSound := by
  intro ch
  rw [hm, Pair.get_both]
  exact Meter.atReset_sound _ _

namespace State.MetersSound

variable {s : State} (h : s.MetersSound)
include h

/-- An operation that leaves the meters, the crank state and the channel states keeps the agreement. -/
theorem congr {t : State} (hm : t.meters = s.meters) (hc : t.decoder.crank = s.decoder.crank)
    (hq : ∀ ch, t.channelState ch = s.channelState ch) : t.MetersSound := by
  intro ch
  rw [hm, hc, hq ch]
  exact h ch

/-- The same where the sequencers stay whole. -/
theorem frame {t : State} (hm : t.meters = s.meters) (hc : t.decoder.crank = s.decoder.crank)
    (hq : t.sequencers = s.sequencers) : t.MetersSound :=
  h.congr hm hc fun ch => by simp only [State.channelState, hq]

/-- Out of CYCLE_SYNC the crank and the channels may change in any way. -/
theorem of_unsynced {t : State} (hc : s.decoder.crank ≠ .cycleSync) (hm : t.meters = s.meters) : t.MetersSound := by
  intro ch
  rw [hm]
  exact (h ch).of_unsynced hc _ _

theorem modMeter {ch : Channel} {f : Meter → Meter}
    (hf : (f (s.meters.get ch)).Sound s.decoder.crank (s.channelState ch)) : (s.modMeter ch f).MetersSound := by
  intro c
  simp only [State.modMeter, Pair.get_set]
  split
  · next hc => subst hc; exact hf
  · exact h c

theorem modSequencer {ch : Channel} {f : Sequencer → Sequencer}
    (hf : (f (s.sequencers.get ch)).state = (s.sequencers.get ch).state) : (s.modSequencer ch f).MetersSound := by
  refine h.congr (by simp) (by simp) fun c => ?_
  simp only [State.channelState, State.modSequencer, Pair.get_set]
  split
  · next hc => subst hc; exact hf
  · rfl

theorem modDecoder {f : Decoder → Decoder} (hf : (f s.decoder).crank = s.decoder.crank) :
    (s.modDecoder f).MetersSound := h.frame rfl hf rfl

theorem modController (ch : Channel) (f : Controller → Controller) : (s.modController ch f).MetersSound :=
  h.frame rfl rfl rfl

theorem modTimers (f : Timers → Timers) : (s.modTimers f).MetersSound := h.frame rfl rfl rfl

theorem modTarget (f : TargetUnit → TargetUnit) : (s.modTarget f).MetersSound := h.frame rfl rfl rfl

theorem modOil (f : OilUnit → OilUnit) : (s.modOil f).MetersSound := h.frame rfl rfl rfl

theorem modEngine (f : EngineStore → EngineStore) : (s.modEngine f).MetersSound := h.frame rfl rfl rfl

theorem modSense (f : Sense → Sense) : (s.modSense f).MetersSound := h.frame rfl rfl rfl

theorem modLink (f : Link → Link) : (s.modLink f).MetersSound := h.frame rfl rfl rfl

theorem modDriver (ch : Channel) (f : Driver → Driver) : (s.modDriver ch f).MetersSound := h.frame rfl rfl rfl

theorem modFaults (f : Faults → Faults) : (s.modFaults f).MetersSound := h.frame rfl rfl rfl

omit h in
theorem ite {p : Prop} [Decidable p] {u v : State} (hu : u.MetersSound) (hv : v.MetersSound) :
    (if p then u else v).MetersSound := by
  split
  · exact hu
  · exact hv

/-! ### Channel states, exits and latches -/

theorem setChannelState (ch : Channel) (new : ChannelState) : (s.setChannelState ch new).MetersSound := by
  intro c
  have hcrank : (s.setChannelState ch new).decoder.crank = s.decoder.crank := by simp
  rw [hcrank, State.setChannelState_state, State.setChannelState_meters]
  by_cases hc : c = ch
  · subst hc
    rw [if_pos rfl]
    split
    · simpa using (h c).unwatched new
    · next hleave => exact (h c).ofChannel fun hp => by simpa [hp] using hleave
  · rw [if_neg hc]
    split
    · simpa only [Pair.get_set_ne _ hc] using h c
    · exact h c

theorem setCommand (ch : Channel) (i : Nat) : (s.setCommand ch i).MetersSound :=
  h.frame (by simp) (by simp) (by simp)

theorem enterReturning (ch : Channel) : (s.enterReturning ch).MetersSound := by
  have hentered := (h.setChannelState ch .returning).modSequencer (ch := ch)
    (f := fun q => { q with returnCount := 0, returnRun := 0 }) rfl
  simp only [State.enterReturning]
  split
  · exact hentered
  · exact hentered.setChannelState ch .parked

theorem exitRunning (ch : Channel) : (s.exitRunning ch).MetersSound :=
  ite (h.enterReturning ch) h

theorem returnRunning : s.returnRunning.MetersSound := (h.exitRunning .a).exitRunning .b

theorem latchChannel (ch : Channel) (k : ChannelFault) : (s.latchChannel ch k).MetersSound :=
  have hlatched := (h.modFaults fun f =>
    { f with channel := f.channel.set ch ((f.channel.get ch).add k) }).setChannelState ch .fault
  ite h (hlatched.frame (by simp) (by simp) (by simp))

theorem latchStation (k : StationFault) : (s.latchStation k).MetersSound := by
  simp only [State.latchStation]
  split
  · exact h
  · refine State.MetersSound.returnRunning ?_
    split <;> exact h.frame (by simp) (by simp) (by simp)

/-! ### The meters' own events -/

theorem revolutionTest (ch : Channel) : (s.revolutionTest ch).MetersSound := by
  have htested := h.modMeter (ch := ch)
    (f := fun m => { m with missing := (s.meters.get ch).missingAfterTest, edgeSeen := false }) (h ch).tested
  simp only [State.revolutionTest]
  split
  · exact htested.latchChannel ch .camLost
  · exact htested

theorem noiseTest (ch : Channel) : (s.noiseTest ch).MetersSound := by
  have hcleared := h.modMeter (ch := ch) (f := fun m => { m with strayCount := 0 }) (h ch).clearStrays
  rw [State.noiseTest_eq]
  split
  · exact hcleared.latchChannel ch .camNoise
  · exact hcleared

theorem parkLearning (ch : Channel) : (s.parkLearning ch).MetersSound := by
  simp only [State.parkLearning]
  split
  · split
    · next hm => exact h.modMeter ((h ch).learn hm)
    · exact h.latchChannel ch .parkOffsetRange
  · exact h

/-- The meter takes the cycle reference, which comes in CYCLE_SYNC only (R20, R31). -/
theorem meterCycleReference (hc : s.decoder.crank = .cycleSync) (ch : Channel) :
    (s.meterCycleReference ch).MetersSound := by
  have hlearned := h.parkLearning ch
  have hwatched : ((s.parkLearning ch).watchPark ch).MetersSound :=
    hlearned.modMeter ((hlearned ch).watch (by simpa using hc))
  have htested := hwatched.noiseTest ch
  exact htested.modMeter (htested ch).invalidateRing

/-! ### The channels' events -/

theorem startRelease (ch : Channel) : (s.startRelease ch).MetersSound :=
  ((h.setChannelState ch .releasing).modSequencer rfl).setCommand ch _

theorem enterTracking (ch : Channel) (phase : Int) : (s.enterTracking ch phase).MetersSound :=
  ((h.setChannelState ch .tracking).modSequencer (ch := ch)
    (f := fun q => { q with attempts := 3, retryHold := 0 }) rfl).frame
      (by simp [State.enterTracking]) (by simp [State.enterTracking]) (by simp [State.enterTracking])

theorem releaseProgress (ch : Channel) (phase : Int) : (s.releaseProgress ch phase).MetersSound :=
  ite (State.MetersSound.enterTracking (h.modSequencer rfl) ch phase) (h.modSequencer rfl)

theorem returnProgress (ch : Channel) (phase : Int) : (s.returnProgress ch phase).MetersSound :=
  ite (State.MetersSound.setChannelState (h.modSequencer rfl) ch .parked) (h.modSequencer rfl)

theorem trackErrorUpdate (ch : Channel) (e : Int) : (s.trackErrorUpdate ch e).MetersSound := by
  simp only [State.trackErrorUpdate]
  split
  · split
    · exact (h.modController ch _).latchChannel ch .trackError
    · exact h.modController ch _
  · exact h.modController ch _

theorem controlUpdate (ch : Channel) (phase : Int) : (s.controlUpdate ch phase).MetersSound := by
  simp only [State.controlUpdate]
  exact State.MetersSound.trackErrorUpdate (h.frame (by simp) (by simp) (by simp)) ch _

theorem trackingEvent (ch : Channel) (phase : Int) : (s.trackingEvent ch phase).MetersSound := by
  have hramped : (s.ramp ch).MetersSound := h.frame (by simp) (by simp) (by simp)
  simp only [State.trackingEvent]
  split
  · exact hramped.enterReturning ch
  · exact hramped.controlUpdate ch phase

theorem phaseMeasured (ch : Channel) (phase : Int) : (s.phaseMeasured ch phase).MetersSound := by
  unfold State.phaseMeasured
  split
  · split
    · exact h.startRelease ch
    · exact h
  · exact h.releaseProgress ch phase
  · exact h.trackingEvent ch phase
  · exact h.returnProgress ch phase
  · exact h

theorem releaseTick (ch : Channel) : (s.releaseTick ch).MetersSound := by
  simp only [State.releaseTick]
  split
  · split
    · exact State.MetersSound.latchChannel ((h.modSequencer rfl).modSequencer rfl) ch .lockStuck
    · exact State.MetersSound.setChannelState ((h.modSequencer rfl).modSequencer rfl) ch .parked
  · exact h.modSequencer rfl

theorem returnTick (ch : Channel) : (s.returnTick ch).MetersSound := by
  simp only [State.returnTick]
  split
  · exact State.MetersSound.latchChannel (h.modSequencer rfl) ch .noReturn
  · exact h.modSequencer rfl

theorem retryTick (ch : Channel) : (s.retryTick ch).MetersSound := h.modSequencer rfl

theorem sequencerTick (ch : Channel) : (s.sequencerTick ch).MetersSound := by
  have hrelease : ∀ u : State, u.MetersSound →
      (if u.channelState ch = .releasing then u.releaseTick ch else u).MetersSound :=
    fun u hu => ite (hu.releaseTick ch) hu
  have hreturn : ∀ u : State, u.MetersSound →
      (if u.channelState ch = .returning then u.returnTick ch else u).MetersSound :=
    fun u hu => ite (hu.returnTick ch) hu
  exact hreturn _ (hrelease _ (ite (h.retryTick ch) h))

theorem engineAging : s.engineAging.MetersSound :=
  ite (h.modEngine _).returnRunning (h.modEngine _)

/-! ### The cycle reference at every block -/

theorem targetCycleReference : s.targetCycleReference.MetersSound :=
  ite (h.modTarget _).returnRunning (h.modTarget _)

theorem oilConditions : s.oilConditions.MetersSound :=
  have hoil : s.evaluateOil.MetersSound := h.frame rfl rfl rfl
  ite hoil.returnRunning hoil

theorem oilCycleReference : s.oilCycleReference.MetersSound :=
  have hoil : s.evaluateOil.budgetCompute.MetersSound := h.frame rfl rfl rfl
  ite hoil.returnRunning hoil

theorem sequencerCycleReference : s.sequencerCycleReference.MetersSound := by
  rw [State.sequencerCycleReference, State.eachChannel_def]
  exact (h.engineAging.sequencerTick .a).sequencerTick .b

theorem resistanceTrim (ch : Channel) : (s.resistanceTrim ch).MetersSound :=
  h.frame (by simp) (by simp) (by simp)

theorem queueStatus : s.queueStatus.MetersSound := h.frame (by simp) (by simp) (by simp)

theorem takeCycleReference (hc : s.decoder.crank = .cycleSync) (b : CycleBlock) :
    (s.takeCycleReference b).MetersSound := by
  cases b with
  | meterA => exact h.meterCycleReference hc .a
  | meterB => exact h.meterCycleReference hc .b
  | target => exact h.targetCycleReference
  | oil => exact h.oilCycleReference
  | sequencer => exact h.sequencerCycleReference
  | driverA => exact h.resistanceTrim .a
  | driverB => exact h.resistanceTrim .b
  | statusAssembly => exact h.queueStatus

theorem cycleReference (hc : s.decoder.crank = .cycleSync) (order : List CycleBlock) :
    (s.cycleReference order).MetersSound := by
  unfold State.cycleReference
  generalize blockOrder order = blocks
  induction blocks generalizing s with
  | nil => exact h
  | cons b bs ih =>
    have hcb : (s.takeCycleReference b).decoder.crank = .cycleSync := by simpa using hc
    exact ih (h.takeCycleReference hc b) hcb


/-! ### The decoder's events -/

theorem inRange (ch : Channel) : (s.meters.get ch).InRange := (h ch).toInRange

theorem channelSyncLost (ch : Channel) : (s.channelSyncLost ch).MetersSound := by
  unfold State.channelSyncLost
  split
  · exact h
  · exact h.enterReturning ch
  · exact h.enterReturning ch
  · exact h.setChannelState ch .parked
  · exact h

/-- "Sync lost" makes the meters agree with whatever the crank state has become (R40). -/
theorem of_publishSyncLost {u : State} (hm : u.meters = s.meters) : u.publishSyncLost.MetersSound := by
  have hmeters : (u.eachChannel fun u ch => u.modMeter ch Meter.syncLost).MetersSound := by
    intro c
    have hc : (u.eachChannel fun u ch => u.modMeter ch Meter.syncLost).meters.get c = (s.meters.get c).syncLost := by
      rw [← hm]; cases c <;> rfl
    rw [hc]
    exact (h.inRange c).syncLost _ _
  exact ((((hmeters.modTarget _).modOil _).channelSyncLost .a).channelSyncLost .b).modTimers _

theorem countLoss : s.countLoss.MetersSound :=
  ite (State.MetersSound.latchStation (h.modDecoder rfl) .crankUnstable) (h.modDecoder rfl)

theorem toothError (t : Tick) : (s.toothError t).MetersSound :=
  (h.of_publishSyncLost (u := s.modDecoder fun d => d.toothError t) rfl).countLoss

theorem publishRevolution : s.publishRevolution.MetersSound := (h.revolutionTest .a).revolutionTest .b

theorem publishRevSync : s.publishRevSync.MetersSound := by
  have hunseen : ∀ u : State, u.MetersSound → ∀ ch, (u.modMeter ch fun m => { m with edgeSeen := false }).MetersSound :=
    fun u hu ch => hu.modMeter (hu ch).unseen
  exact (hunseen _ (hunseen _ h .a) .b).frame rfl rfl rfl

theorem gainRevSync (hc : s.decoder.crank ≠ .cycleSync) (t : Tick) : (s.gainRevSync t).MetersSound :=
  State.MetersSound.publishRevSync (h.of_unsynced hc rfl)

/-- The gap closes a revolution; the second one of a cycle is the cycle reference (R10, R20). -/
theorem closeRevolution (t : Tick) (order : List CycleBlock) : (s.closeRevolution t order).MetersSound := by
  unfold State.closeRevolution
  split
  · exact State.MetersSound.publishRevolution (h.modDecoder rfl)
  · next hc _ =>
    have hcrank : ∀ d : Decoder, d.cycleReference.crank = d.crank := fun d => by
      simp [Decoder.cycleReference, Decoder.countCleanCycle_eq]
    have hcycle : (s.modDecoder fun d => { d.toothZero t with half := some .zero }.cycleReference).MetersSound :=
      h.modDecoder (hcrank _)
    exact hcycle.publishRevolution.cycleReference (by simp [hcrank, Decoder.toothZero, Decoder.accept, hc]) order
  · exact State.MetersSound.publishRevolution (h.modDecoder rfl)

theorem syncedEdge (t : Tick) (order : List CycleBlock) : (s.syncedEdge t order).MetersSound := by
  simp only [State.syncedEdge]
  split
  · exact ite (ite (h.modDecoder rfl) (h.toothError t)) (ite (h.closeRevolution t order) (h.toothError t))
  · exact h.toothError t

theorem seekEdge (hc : s.decoder.crank ≠ .cycleSync) (t : Tick) : (s.seekEdge t).MetersSound := by
  simp only [State.seekEdge]
  split
  · exact h.modDecoder rfl
  · exact ite (h.gainRevSync hc t) (h.modDecoder rfl)

theorem crankEdge (t : Tick) (order : List CycleBlock) : (s.crankEdge t order).MetersSound := by
  refine ite h ?_
  split
  · next hc => exact h.of_unsynced (by simp [hc]) rfl
  · next hc => exact h.seekEdge (by simp [hc]) t
  · exact h.syncedEdge t order
  · exact h.syncedEdge t order

theorem stall : s.stall.MetersSound := by
  unfold State.stall
  split
  · exact h
  · next hc => exact h.of_unsynced (by simp [hc]) rfl
  · exact h.of_publishSyncLost rfl
  · exact h.of_publishSyncLost rfl

/-- An edge with a cycle angle, which there is in CYCLE_SYNC only (R14, R29). -/
theorem measureEdge (hc : s.decoder.crank = .cycleSync) (ch : Channel) (angle : Nat) :
    (s.measureEdge ch angle).MetersSound := by
  cases hk : (s.meters.get ch).assign ch s.straps.role angle with
  | none =>
    rw [State.measureEdge_of_unassigned hk]
    exact h.modMeter (h ch).countStray
  | some k =>
    cases hv : ((s.meters.get ch).ring.get k).valid with
    | true =>
      rw [State.measureEdge_of_taken hk hv]
      exact h.modMeter (h ch).countStray
    | false =>
      rw [State.measureEdge_of_first hk hv]
      exact State.MetersSound.phaseMeasured (h.modMeter ((h ch).record hc ch k _ (wrapAngle_bounds _))) ch _

theorem captureEdge (ch : Channel) {angle : Option Nat} (hc : angle.isSome = true → s.decoder.crank = .cycleSync) :
    (s.captureEdge ch angle).MetersSound := by
  have hseen := h.modMeter (ch := ch) (f := fun m => { m with edgeSeen := true, missing := 0 }) (h ch).seen
  cases angle with
  | none => exact hseen
  | some a => exact hseen.measureEdge (hc rfl) ch a

theorem camEdge (ch : Channel) (t : Tick) : (s.camEdge ch t).MetersSound := by
  have hangle : ∀ {d : Decoder} {rev : Nat}, (d.cycleAngle rev).isSome = true → d.crank = .cycleSync := by
    intro d rev
    cases hd : d.crank <;> simp [Decoder.cycleAngle, hd]
  have hmarked : ∀ {rev : Nat}, (s.modDecoder fun d => { d with prevCam := d.prevCam.set ch (some rev) }).MetersSound :=
    h.modDecoder rfl
  simp only [State.camEdge]
  split
  · exact h
  · exact h
  · next hc =>
    split
    · refine State.MetersSound.captureEdge ?_ ch hangle
      exact h.of_unsynced (by simp [hc]) (by simp)
    · exact hmarked.captureEdge ch (by simp)
  · split
    · have hlost : State.MetersSound
          ((s.markCam ch (s.decoder.revAngle t)).modDecoder Decoder.halfConflict).publishSyncLost :=
        h.of_publishSyncLost rfl
      have hseen := hlost.captureEdge ch (angle := none) (by simp)
      exact hseen.countLoss
    · exact hmarked.captureEdge ch hangle

theorem deliverEdge (pin : AnglePin) (t : Tick) (order : List CycleBlock) : (s.deliverEdge pin t order).MetersSound := by
  unfold State.deliverEdge
  split
  · exact h.crankEdge t order
  · exact h.camEdge _ t

/-! ### Samples and frames -/

theorem elapse (n : Nat) : (s.elapse n).MetersSound := h.frame (by simp) (by simp) (by simp)

theorem completeSlot : s.completeSlot.MetersSound := h.frame (by simp) (by simp) (by simp)

theorem openCoilTest (ch : Channel) (sample : Nat) : (s.openCoilTest ch sample).MetersSound := by
  have hdriver : ∀ f, (s.modDriver ch f).MetersSound := fun f => h.modDriver ch f
  unfold State.openCoilTest
  exact ite (ite ((hdriver _).latchChannel ch .openCoil) (hdriver _)) (hdriver _)

theorem modConditions_computeDuties (f : Conditions → Conditions) : (s.modConditions f).computeDuties.MetersSound :=
  h.frame (by simp) (by simp) (by simp)

theorem evaluateSupply (v : Int) : (s.evaluateSupply v).MetersSound := by
  simp only [State.evaluateSupply]
  exact ite (h.modConditions_computeDuties _).returnRunning (h.modConditions_computeDuties _)

theorem evaluateDerate (t : Int) : (s.evaluateDerate t).MetersSound := h.frame (by simp) (by simp) (by simp)

theorem evaluateThermalCut (t : Int) : (s.evaluateThermalCut t).MetersSound := by
  simp only [State.evaluateThermalCut]
  exact ite h (ite (h.modConditions_computeDuties _).returnRunning (h.modConditions_computeDuties _))

theorem rangeCheck (code : Code12) : (s.rangeCheck code).MetersSound :=
  ite (h.modSense _) (ite ((h.modSense _).latchStation .oilpSensor) (h.modSense _))

theorem takeClear (w : Word16) : (s.takeClear w).MetersSound := by
  intro ch
  have hcrank : (s.takeClear w).decoder.crank = s.decoder.crank := by
    rw [State.takeClear_decoder]; split <;> rfl
  rw [hcrank, State.takeClear_eq, State.channelState]
  simp only [Pair.get_replaceWhere]
  split
  · have hm : (s.meterAfterClear (readRelearn w) ch).Sound s.decoder.crank (s.channelState ch) := by
      unfold State.meterAfterClear
      split
      · exact (h ch).relearn
      · exact h ch
    refine hm.ofChannel fun hp => ?_
    simp [State.sequencerAfterClear, hp]
  · exact h ch

theorem engineArrival (code : Word16) : (s.engineArrival code).MetersSound := by
  simp only [State.engineArrival]
  split
  · exact h.modEngine _
  · exact (h.modEngine _).returnRunning

theorem deliver (f : Frame) (straps : Straps) : (s.deliver f straps).MetersSound := by
  unfold State.deliver
  split
  · exact h.modTarget _
  · exact h.engineArrival _
  · exact h.modOil _
  · exact h.takeClear _
  · exact h.frame (by simp) (by simp) (by simp)
  · exact h.frame (by simp) (by simp) (by simp)
  · exact ite (State.metersSound_of_reset rfl) h
  · exact h

theorem receive (f : Frame) (straps : Straps) : (s.receive f straps).MetersSound :=
  have hread : (s.atBitRead fun l => l.endFrame.countGood).MetersSound := h.frame (by simp) (by simp) (by simp)
  ite (ite ((hread.modLink _).latchStation .addressClash) (ite (hread.deliver f straps) hread)) h

end State.MetersSound

/-! ### Commands and steps -/

/-- A meaning keeps the agreement if its effect does; while VDD is low it has none (R174). -/
theorem act_metersSound {s t : State} {f : State → State} (h : s.MetersSound) (hact : act s f = .next t)
    (hf : (f s).MetersSound) : t.MetersSound := by
  obtain rfl : (if s.supplyLow then s else f s) = t := Host.Outcome.next.inj hact
  exact .ite h hf

theorem execPowerOnReset_metersSound {s t : State} {edge : SupplyEdge} {pins : StrapPins} (h : s.MetersSound)
    (hexec : execPowerOnReset edge pins s = .next t) : t.MetersSound := by
  cases edge with
  | falls => cases hexec; exact State.metersSound_of_reset rfl
  | rises =>
    obtain rfl := Host.Outcome.next.inj hexec
    exact .ite (State.metersSound_of_reset rfl) h

theorem execGlitch_metersSound {s t : State} {pin : AnglePin} (h : s.MetersSound)
    (hexec : execGlitch pin s = .next t) : t.MetersSound := by
  have hclosed : (s.closeCandidate pin).MetersSound := h.frame (by simp) (by simp) (by simp)
  refine act_metersSound h hexec (.ite ?_ h)
  simp only
  split
  · exact hclosed
  · exact .ite (hclosed.modMeter (hclosed _).countStray) hclosed

theorem execFilterTimeExpiry_metersSound {s t : State} {pin : AnglePin} {order : List CycleBlock} (h : s.MetersSound)
    (hexec : execFilterTimeExpiry pin order s = .next t) : t.MetersSound := by
  refine act_metersSound h hexec ?_
  split
  · exact h
  · simp only
    have hrecognised : ∀ n, ((s.elapse n).recognise pin).MetersSound :=
      fun n => h.frame (by simp) (by simp) (by simp)
    split
    · exact hrecognised _
    · exact (hrecognised _).deliverEdge pin _ order

theorem exec_metersSound {c : Instr} {s t : State} (h : s.MetersSound) (hexec : exec c s = .next t) :
    t.MetersSound := by
  cases c with
  | powerOnReset => exact execPowerOnReset_metersSound h hexec
  | glitch => exact execGlitch_metersSound h hexec
  | filterTimeExpiry => exact execFilterTimeExpiry_metersSound h hexec
  | stallTimerExpiry => exact act_metersSound h hexec (.ite (h.elapse _).stall h)
  | crankUnstable => exact act_metersSound h hexec (.ite h.countLoss h)
  | lossFreeRunExpiry =>
    exact act_metersSound h hexec (.ite (h.modDecoder (by simp [Decoder.countCleanCycle_eq])) h)
  | camLost ch => exact act_metersSound h hexec (.ite (h.revolutionTest ch) h)
  | camNoise ch => exact act_metersSound h hexec (.ite (h.noiseTest ch) h)
  | target | status | engine | clear | config | close | restart | faultFrameReceived =>
    exact act_metersSound h hexec (h.receive _ _)
  | framePassedOver | addressClash => exact act_metersSound h hexec (.ite (h.receive _ _) h)
  | targetStale => exact act_metersSound h hexec (.ite h.targetCycleReference h)
  | oilReady | oilLow => exact act_metersSound h hexec (.ite h.oilConditions h)
  | engineStateStale => exact act_metersSound h hexec (.ite h.engineAging h)
  | parkPinChange => cases hexec; exact h.frame rfl rfl rfl
  | parkRequestRecognised =>
    dsimp only [exec, execParkRequestRecognised] at hexec
    refine act_metersSound h hexec ?_
    split
    · exact h
    · have hrequest : ∀ n f g, (((s.elapse n).modTimers f).modEngine g).MetersSound :=
        fun n f g => ((h.elapse n).modTimers f).modEngine g
      exact .ite (hrequest _ _ _).returnRunning (hrequest _ _ _)
  | releaseSuccess ch =>
    dsimp only [exec, execReleaseSuccess] at hexec
    refine act_metersSound h hexec ?_
    split
    · exact h
    · exact .ite (h.releaseProgress ch _) h
  | returnArrival ch =>
    dsimp only [exec, execReturnArrival] at hexec
    refine act_metersSound h hexec ?_
    split
    · exact h
    · exact .ite (h.returnProgress ch _) h
  | trackError ch =>
    dsimp only [exec, execTrackError] at hexec
    refine act_metersSound h hexec ?_
    split
    · exact h
    · exact .ite (h.trackErrorUpdate ch _) h
  | releaseTimeout ch => exact act_metersSound h hexec (.ite (h.releaseTick ch) h)
  | retryHoldExpiry ch => exact act_metersSound h hexec (.ite (h.retryTick ch) h)
  | noReturn ch => exact act_metersSound h hexec (.ite (h.returnTick ch) h)
  | overcurrent ch =>
    dsimp only [exec, execOvercurrent] at hexec
    refine act_metersSound h hexec ?_
    split
    · exact h
    · exact .ite (((h.elapse _).modDriver ch _).latchChannel ch .overcurrent) h
  | openCoil ch =>
    dsimp only [exec, execOpenCoil] at hexec
    refine act_metersSound h hexec ?_
    split
    · exact h
    · exact .ite (h.openCoilTest ch _) h
  | currentSample ch => exact act_metersSound h hexec (.ite ((h.completeSlot.modSense _).openCoilTest ch _) h)
  | oilpSample => exact act_metersSound h hexec (.ite ((h.completeSlot.modSense _).rangeCheck _) h)
  | oilpSensor => exact act_metersSound h hexec (.ite (h.rangeCheck _) h)
  | vsupSample => exact act_metersSound h hexec (.ite ((h.completeSlot.modSense _).evaluateSupply _) h)
  | tdieSample =>
    exact act_metersSound h hexec
      (.ite (((h.completeSlot.modSense _).evaluateDerate _).evaluateThermalCut _) h)
  | _ =>
    dsimp only [exec, execFilterCandidateOpen, execPeerEntryExpiry, execNullTransfer, execPwmPeriodStart,
      execOnTimeEnd, execOpenCoilBlankingExpiry, execFrameDiscarded, execLinkErrors, execLinkErrorsCleared,
      execSendStart, execLostArbitration, execBitError, execSlotDrop, execTransmissionComplete, execBusStuck,
      execBusStuckCleared, execStatusTimerExpiry, execFaultPulseExpiry, execStartBit, State.discard,
      State.loseArbitration, State.failBit] at hexec
    refine act_metersSound h hexec ?_
    (repeat' split) <;> exact h.frame (by simp) (by simp) (by simp)

theorem step_metersSound {s t : State} (h : s.MetersSound) (hstep : step s = .next t) : t.MetersSound := by
  unfold step at hstep
  split at hstep
  · obtain rfl := Host.Outcome.next.inj hstep
    exact .ite h (h.elapse 1)
  · next rest _ =>
    have hqueue : State.MetersSound { s with pending := rest } := h.frame rfl rfl rfl
    exact exec_metersSound hqueue hstep

/-- Settles O57: every operation keeps each meter in range and in agreement with the crank and its channel. -/
theorem meterItemsKept : Obligations.MeterItemsKept := fun s t hs hstep =>
  (metersSound_iff t).2 (step_metersSound ((metersSound_iff s).1 hs) hstep)

end Sys2Proof.Machine
end

section
/-! PROOF. The target unit: the pairs that the parameters allow and the overlap guard (O15), the arrival of a TARGET frame (O14),
and the unit's cycle reference with the stale pair (O16). -/

namespace Sys2Proof.Machine

/-! ### Allowed pairs and the overlap guard (R43, R46) -/

/-- The greatest target of a channel (R50). -/
def Params.maxTarget (p : Params) : Channel → Nat
  | .a => p.intakeMax
  | .b => p.exhaustMax

/-- A pair of targets that the parameters allow: each in its channel's range, and together at most the overlap limit (R43,
R46, R52). -/
structure Params.Allows (p : Params) (pair : Pair Int) : Prop where
  sum_le : pair.a + pair.b ≤ (p.overlapLimit : Int)
  range : ∀ ch, 0 ≤ pair.get ch ∧ pair.get ch ≤ (p.maxTarget ch : Int)

theorem Params.allows_zero (p : Params) : p.Allows (.both 0) where
  sum_le := by simp [Pair.both]
  range := fun ch => by simp

/-- The bound on the sum, seen from either channel. -/
theorem Params.Allows.sum_with_other {p : Params} {pair : Pair Int} (h : p.Allows pair) (ch : Channel) :
    pair.get ch + pair.get (otherChannel ch) ≤ (p.overlapLimit : Int) := by
  have := h.sum_le
  cases ch <;> simp only [Pair.get, otherChannel] <;> omega

/-- A pair stays allowed where some of its targets become 0. -/
theorem Params.Allows.lower {p : Params} {pair q : Pair Int} (h : p.Allows pair)
    (hq : ∀ ch, q.get ch = pair.get ch ∨ q.get ch = 0) : p.Allows q where
  sum_le := by
    have hsum := h.sum_le
    have hA := (h.range .a).1
    have hB := (h.range .b).1
    have hqA := hq .a
    have hqB := hq .b
    simp only [Pair.get] at *
    omega
  range := fun ch => by
    have := h.range ch
    rcases hq ch with he | he <;> omega

/-- One target of an allowed pair changed within its channel's range, and within the room that the other target leaves. -/
theorem Params.Allows.set {p : Params} {pair : Pair Int} (h : p.Allows pair) {ch : Channel} {f : Int}
    (hf : 0 ≤ f ∧ f ≤ (p.maxTarget ch : Int)) (hroom : f + pair.get (otherChannel ch) ≤ (p.overlapLimit : Int)) :
    p.Allows (pair.set ch f) where
  sum_le := by cases ch <;> simp only [Pair.get, Pair.set, otherChannel] at * <;> omega
  range := fun c => by
    rw [Pair.get_set]
    split
    · next hc => exact hc ▸ hf
    · exact h.range c

/-- The overlap guard keeps a pair in the channels' ranges there, and brings it to at most the limit (R46). -/
theorem Params.allows_overlapGuard (p : Params) {rI rE : Int} (hI : 0 ≤ rI ∧ rI ≤ p.intakeMax)
    (hE : 0 ≤ rE ∧ rE ≤ p.exhaustMax) : p.Allows (overlapGuard p.overlapLimit rI rE) := by
  unfold overlapGuard
  constructor
  · (repeat' split) <;> simp only <;> omega
  · intro ch
    cases ch <;> (repeat' split) <;> simp only [Pair.get, Params.maxTarget] <;> omega

theorem Request.targets_allowed (r : Request) (p : Params) : p.Allows (r.targets p) := by
  cases hm : r.mode with
  | track =>
    simp only [Request.targets, hm]
    exact p.allows_overlapGuard (limit_bounds (by omega) _) (limit_bounds (by omega) _)
  | park =>
    simp only [Request.targets, hm]
    exact p.allows_zero

/-! ### The transfer (R47, step 1) -/

/-- The guarded pair as R46 writes it: for PARK 0 and 0, for TRACK by the three cases of the guard. -/
theorem Request.targets_eq (r : Request) (p : Params) :
    let rI := limit 0 p.intakeMax (r.intake.toNat : Int)
    let rE := limit 0 p.exhaustMax (r.exhaust.toNat : Int)
    let l : Int := p.overlapLimit
    let pair : Int × Int :=
      if r.mode = .park then (0, 0) else if l < rI then (l, 0) else if l < rI + rE then (rI, l - rI) else (rI, rE)
    r.targets p = ⟨pair.1, pair.2⟩ := by
  cases hm : r.mode with
  | track =>
    simp only [Request.targets, hm, overlapGuard, reduceCtorEq, if_false]
    (repeat' split) <;> rfl
  | park => simp [Request.targets, hm, Pair.both]

theorem TargetUnit.transfer_of_none {t : TargetUnit} (h : t.pendingSlot = none) (p : Params) : t.transfer p = t := by
  simp [TargetUnit.transfer, h]

theorem TargetUnit.transfer_of_some {t : TargetUnit} {r : Request} (h : t.pendingSlot = some r) (p : Params) :
    t.transfer p = { t.bringIn r.mode (r.targets p) with pendingSlot := none } := by
  simp [TargetUnit.transfer, h]

/-- Settles O15: the transfer by the pending slot, with the pair and its bounds from the guard. -/
theorem transferAndGuard : Obligations.TransferAndGuard := by
  intro t p
  refine ⟨fun h => t.transfer_of_none h p, fun r hr => ?_⟩
  intro rI rE l pair
  have hpair : r.targets p = ⟨pair.1, pair.2⟩ := r.targets_eq p
  obtain ⟨hsum, hrange⟩ := r.targets_allowed p
  rw [hpair] at hsum hrange
  obtain ⟨hI, hI'⟩ := hrange .a
  obtain ⟨hE, hE'⟩ := hrange .b
  refine ⟨?_, hI, hI', hE, hE', hsum⟩
  rw [TargetUnit.transfer_of_some hr, hpair, TargetUnit.bringIn]

/-! ### TARGET arrival (R44, R45) -/

/-- Settles O14: the three ways a good frame of another station is taken, addressed to the part, broadcast and addressed
elsewhere. -/
theorem targetFrameTaken : Obligations.TargetFrameTaken := by
  intro h mode intake exhaust s hears hsource
  obtain ⟨hsupply, hfree, hidle⟩ := hears
  have hhears := (Link.hears_iff s.link).2 ⟨hfree, hidle⟩
  have hexec : exec (.target h mode intake exhaust) s =
      .next (s.receive { cls := 1, header := h, payload := [mode, intake, exhaust] } s.straps) :=
    act_of_live hsupply _
  intro read
  rw [hexec]
  refine ⟨fun ha hd => ?_, fun hignored => ?_⟩
  · rw [State.receive_of_accepted hhears hsource (by simp [accepted, hd]), State.deliver_target]
    simp only [TargetUnit.arrival, ha, if_true]
    rfl
  · cases ha : h.addressed with
    | false =>
      rw [State.receive_of_accepted hhears hsource (by simp [accepted, ha]), State.deliver_target]
      simp only [TargetUnit.arrival, ha]
      rfl
    | true =>
      have hd : h.dest ≠ s.straps.address := by simpa [ha] using hignored
      rw [State.receive_of_not_accepted hhears hsource (by simp [accepted, ha, hd])]
      rfl

/-! ### The target unit at the cycle reference (R47) -/

/-- With a stale pair the reference puts PARK, 0, 0 into force, and "park commanded" takes running channels out (R47, R87). -/
theorem State.targetCycleReference_of_stale {s : State}
    (h : (s.target.transfer s.store.params).grow.isStale s.store.params = true) :
    s.targetCycleReference =
      (s.modTarget fun t => (t.transfer s.store.params).grow.bringIn .park (.both 0)).returnRunning := by
  simp [State.targetCycleReference, TargetUnit.parkCommanded, TargetUnit.expire, State.modTarget, h]

/-- With no stale pair "park commanded" comes from the transfer alone (R47, R86). -/
theorem State.targetCycleReference_of_fresh {s : State}
    (h : (s.target.transfer s.store.params).grow.isStale s.store.params = false) :
    s.targetCycleReference =
      let grown := s.modTarget fun t => (t.transfer s.store.params).grow
      if s.target.mode = .track ∧ (s.target.transfer s.store.params).mode = .park then grown.returnRunning
      else grown := by
  simp [State.targetCycleReference, TargetUnit.parkCommanded, TargetUnit.expire, State.modTarget, h]

/-- Settles O16: the reference by the staleness of the pair, and TARGET_STALE as that reference. -/
theorem stalePairParks : Obligations.StalePairParks := by
  intro s t age stale kept parked
  have hstale : t.grow.isStale s.store.params = true ↔ stale := by
    simp only [TargetUnit.isStale, Bool.and_eq_true, decide_eq_true_eq]
    exact and_comm
  have hparked (h : stale) : s.targetCycleReference = parked.returnRunning := by
    rw [State.targetCycleReference_of_stale (hstale.2 h)]
    simp only [TargetUnit.bringIn, ne_comm (a := (Pair.both (0 : Int)).a), ne_comm (a := (Pair.both (0 : Int)).b)]
    rfl
  have hfresh (h : ¬stale) := State.targetCycleReference_of_fresh (Bool.eq_false_iff.2 (mt hstale.1 h))
  refine ⟨fun h hmode => ?_, fun htrack hpark => ?_, hparked, fun hsupply hc h => ?_⟩
  · exact (hfresh h).trans (if_neg hmode)
  · have hfalse : ¬stale := fun h => by cases hpark.symm.trans h.1
    exact (hfresh hfalse).trans (if_pos ⟨htrack, hpark⟩)
  · refine (act_of_live hsupply _).trans ?_
    rw [if_pos ⟨hc, hstale.2 h⟩, hparked h]

end Sys2Proof.Machine
end

section
/-! PROOF. A channel's response to "phase measured" by its state (O17), and the entry to TRACKING with RELEASE_SUCCESS (O24). -/

namespace Sys2Proof.Machine

/-! ### The conditions of a release (R76, R81) -/

theorem ChannelFaults.isEmpty_iff (f : ChannelFaults) : f.isEmpty = true ↔ ∀ k, f.has k = false := by
  simp only [ChannelFaults.isEmpty, decide_eq_true_eq]
  constructor
  · rintro rfl k
    cases k <;> rfl
  · intro h
    obtain ⟨⟩ := f
    simp only [ChannelFaults.empty, ChannelFaults.mk.injEq]
    exact ⟨h .camLost, h .camNoise, h .parkOffsetRange, h .lockStuck, h .noReturn, h .trackError, h .overcurrent,
      h .openCoil⟩

theorem StationFaults.isEmpty_iff (f : StationFaults) : f.isEmpty = true ↔ ∀ k, f.has k = false := by
  simp only [StationFaults.isEmpty, decide_eq_true_eq]
  constructor
  · rintro rfl k
    cases k <;> rfl
  · intro h
    obtain ⟨⟩ := f
    simp only [StationFaults.empty, StationFaults.mk.injEq]
    exact ⟨h .oilpSensor, h .addressClash, h .crankUnstable⟩

/-- The run conditions, item by item (R76). -/
theorem State.runConditions_iff (s : State) (ch : Channel) :
    s.runConditions ch = true ↔
      s.decoder.crank = .cycleSync ∧ s.store.windowOpen = false ∧ s.engine.parkRequest = false ∧ s.oil.low = false ∧
        s.engine.engine = .running ∧ s.engine.age ≤ 8 ∧ s.conditions.underVoltage = false ∧
        s.conditions.thermalCut = false ∧ (∀ k, s.faults.station.has k = false) ∧
        ∀ k, (s.faults.channel.get ch).has k = false := by
  simp only [State.runConditions, EngineStore.runningFresh, Bool.and_eq_true, Bool.not_eq_true', decide_eq_true_eq,
    StationFaults.isEmpty_iff, ChannelFaults.isEmpty_iff, and_assoc]

/-- The conditions of a release start, item by item (R81). -/
theorem State.mayRelease_iff (s : State) (ch : Channel) :
    s.mayRelease ch = true ↔
      s.runConditions ch = true ∧ s.oil.ready = true ∧ (s.meters.get ch).parkOffset ≠ none ∧ s.target.mode = .track ∧
        30 ≤ s.target.active.get ch ∧ 0 < (s.sequencers.get ch).attempts ∧ (s.sequencers.get ch).retryHold = 0 := by
  simp only [State.mayRelease, Bool.and_eq_true, decide_eq_true_eq, Option.isSome_iff_ne_none, and_assoc]

/-! ### "Phase measured" by channel state (R51, R54, R81, R82, R89) -/

section PhaseMeasured

variable {s : State} {ch : Channel}

/-- A release start out of PARKED, with the park-watch flag cleared and the command of R75 (R31, R81). -/
theorem State.startRelease_of_parked (h : s.channelState ch = .parked) :
    s.startRelease ch =
      ((s.modSequencer ch fun q => { q with state := .releasing, releaseCount := 0, successRun := 0 }).modMeter ch
        fun m => { m with parkWatch := false }).setCommand ch s.releaseCommand := by
  have hstate : s.setChannelState ch .releasing =
      (s.modSequencer ch fun q => { q with state := .releasing }).modMeter ch
        fun m => { m with parkWatch := false } := by
    simp [State.setChannelState, h]
  have hcounts :
      (s.setChannelState ch .releasing).modSequencer ch (fun q => { q with releaseCount := 0, successRun := 0 }) =
        (s.modSequencer ch fun q => { q with state := .releasing, releaseCount := 0, successRun := 0 }).modMeter ch
          fun m => { m with parkWatch := false } := by
    simp [hstate, State.modSequencer, State.modMeter]
  simp only [State.startRelease, hcounts]
  rfl

theorem State.phaseMeasured_of_parked (h : s.channelState ch = .parked) (phase : Int) :
    s.phaseMeasured ch phase = if s.mayRelease ch then s.startRelease ch else s := by
  simp [State.phaseMeasured, h]

theorem State.phaseMeasured_of_releasing (h : s.channelState ch = .releasing) (phase : Int) :
    s.phaseMeasured ch phase = s.releaseProgress ch phase := by
  simp [State.phaseMeasured, h]

theorem State.phaseMeasured_of_tracking (h : s.channelState ch = .tracking) (phase : Int) :
    s.phaseMeasured ch phase = s.trackingEvent ch phase := by
  simp [State.phaseMeasured, h]

theorem State.phaseMeasured_of_returning (h : s.channelState ch = .returning) (phase : Int) :
    s.phaseMeasured ch phase = s.returnProgress ch phase := by
  simp [State.phaseMeasured, h]

theorem State.phaseMeasured_of_fault (h : s.channelState ch = .fault) (phase : Int) : s.phaseMeasured ch phase = s := by
  simp [State.phaseMeasured, h]

end PhaseMeasured

/-- Settles O17: one equation for each of the five channel states. -/
theorem rampAndTargetAtPark : Obligations.RampAndTargetAtPark := by
  intro ch phase s q
  refine ⟨fun hstate => ?_, fun hstate => ?_, fun hstate => ?_, fun hstate => ?_, fun hstate => ?_⟩
  · intro may release
    have hmay : s.mayRelease ch = true ↔ may := by
      rw [State.mayRelease_iff, State.runConditions_iff]
      simp only [and_assoc]
      rfl
    rw [State.phaseMeasured_of_parked hstate]
    refine ⟨fun h => ?_, fun h => if_neg (mt hmay.1 h)⟩
    rw [if_pos (hmay.2 h), State.startRelease_of_parked hstate]
    rfl
  · exact State.phaseMeasured_of_releasing hstate phase
  · intro a f g l f' u
    have hramp : s.ramp ch = u := rfl
    have hpark : u.targetAtPark ch = true ↔ a < 30 ∧ f' < 30 := by
      have hset : u.target.effective.get ch = f' := Pair.get_set_same _ ch f'
      simp only [State.targetAtPark, hset, Bool.and_eq_true, decide_eq_true_eq]
      rfl
    rw [State.phaseMeasured_of_tracking hstate, State.trackingEvent, hramp]
    exact ⟨fun h => if_pos (hpark.2 h), fun h => if_neg (mt hpark.1 h)⟩
  · intro run counted
    have hrun : (if nearPark phase then bump 3 q.returnRun else 0) = run := by
      simp only [nearPark, Bool.and_eq_true, decide_eq_true_eq]
      rfl
    rw [State.phaseMeasured_of_returning hstate, State.returnProgress, hrun]
  · exact State.phaseMeasured_of_fault hstate phase

/-! ### Entry to TRACKING (R50, R82, R83, R115) -/

/-- Entry to TRACKING out of RELEASING: the sequencer reloaded (R83), the effective target from the phase (R50), the controller
started with its learned null as the command (R115). -/
theorem State.enterTracking_of_releasing {s : State} {ch : Channel} (h : s.channelState ch = .releasing) (phase : Int) :
    s.enterTracking ch phase =
      (((s.modSequencer ch fun q => { q with state := .tracking, attempts := 3, retryHold := 0 }).modTarget fun t =>
          { t with effective := t.effective.set ch (s.entryTarget ch phase) }).modController ch
            Controller.startTracking).setCommand ch (s.entryCommand ch) := by
  have hstate : s.setChannelState ch .tracking = s.modSequencer ch fun q => { q with state := .tracking } := by
    simp [State.setChannelState, h]
  simp only [State.enterTracking, hstate]
  congr 1
  · simp [State.modSequencer, State.modTarget, State.modController]
  · cases ch <;> rfl

/-- Settles O24: the success run comes to 2, and the channel enters TRACKING; RELEASE_SUCCESS is that step. -/
theorem releaseSucceeds : Obligations.ReleaseSucceeds := by
  intro ch phase s hstate hphase hrun room entry entered
  have hbump : bump 2 (s.sequencers.get ch).successRun = 2 := by unfold bump; omega
  have hcounted : (s.modSequencer ch fun q => { q with successRun := 2 }).channelState ch = .releasing := by
    simpa [State.channelState] using hstate
  have hprogress : s.releaseProgress ch phase = entered := by
    simp only [State.releaseProgress, hphase, hbump, if_true]
    rw [State.enterTracking_of_releasing hcounted]
    simp only [State.modSequencer, Pair.get_set_same, Pair.set_set_same]
    rfl
  refine ⟨(State.phaseMeasured_of_releasing hstate phase).trans hprogress, fun hsupply hestimate => ?_⟩
  simp only [exec, execReleaseSuccess, act_of_live hsupply, hestimate, hstate, hphase, hbump, and_self, if_true,
    hprogress]

end Sys2Proof.Machine
end

section
/-! PROOF. The overlap bound under every step (O52): what ties the target unit to the parameters, the configuration window and
the channel states, and that each block's operations keep it. -/

namespace Sys2Proof.Machine

/-! ### The targets that TRACKING sets (R50, R51) -/

theorem State.channelMax_eq (s : State) (ch : Channel) : s.channelMax ch = s.store.params.maxTarget ch := by
  cases ch <;> rfl

/-- The target at entry to TRACKING lies in the channel's range, and within the room (R50). -/
theorem State.entryTarget_bounds {s : State} (h : s.store.params.Allows s.target.effective) (ch : Channel)
    (phase : Int) :
    (0 ≤ s.entryTarget ch phase ∧ s.entryTarget ch phase ≤ (s.store.params.maxTarget ch : Int)) ∧
      s.entryTarget ch phase + s.target.effective.get (otherChannel ch) ≤ (s.store.params.overlapLimit : Int) := by
  have hsum := h.sum_with_other ch
  have hrange := h.range ch
  simp only [State.entryTarget, State.channelMax_eq]
  have := limit_bounds (lo := 0)
    (hi := min (s.store.params.maxTarget ch : Int)
      (s.store.params.overlapLimit - s.target.effective.get (otherChannel ch)))
    (by omega) phase
  omega

/-- The ramp moves between the effective and the active target, and stays within the room (R51, R52). -/
theorem State.rampedTarget_bounds {s : State} (heffective : s.store.params.Allows s.target.effective)
    (hactive : s.store.params.Allows s.target.active) (ch : Channel) :
    (0 ≤ s.rampedTarget ch ∧ s.rampedTarget ch ≤ (s.store.params.maxTarget ch : Int)) ∧
      s.rampedTarget ch + s.target.effective.get (otherChannel ch) ≤ (s.store.params.overlapLimit : Int) := by
  have hsum := heffective.sum_with_other ch
  have hrange := heffective.range ch
  have hrange' := hactive.range ch
  unfold State.rampedTarget rampStep
  (repeat' split) <;> omega

/-! ### The target unit's own steps (R47, R48) -/

section TargetUnit

variable {t : TargetUnit} {p : Params}

@[simp] theorem TargetUnit.transfer_effective : (t.transfer p).effective = t.effective := by
  cases h : t.pendingSlot with
  | none => rw [TargetUnit.transfer_of_none h]
  | some r => rw [TargetUnit.transfer_of_some h]; rfl

theorem TargetUnit.transfer_allowed (h : p.Allows t.active) : p.Allows (t.transfer p).active := by
  cases hr : t.pendingSlot with
  | none => rwa [TargetUnit.transfer_of_none hr]
  | some r => rw [TargetUnit.transfer_of_some hr]; exact r.targets_allowed p

@[simp] theorem TargetUnit.expire_effective : (t.expire p).effective = t.effective := by
  unfold TargetUnit.expire; split <;> rfl

@[simp] theorem TargetUnit.expire_age : (t.expire p).age = t.age := by
  unfold TargetUnit.expire; split <;> rfl

theorem TargetUnit.expire_allowed (h : p.Allows t.active) : p.Allows (t.expire p).active := by
  unfold TargetUnit.expire; split
  · exact p.allows_zero
  · exact h

end TargetUnit

/-- The oil conditions leave the step in force (R60). -/
theorem OilUnit.setConditions_step (o : OilUnit) : o.setConditions.step = o.step := by
  simp only [OilUnit.setConditions]
  (repeat' split) <;> rfl

/-- The evaluation of the conditions leaves it too, whether it is carried out or not. -/
theorem State.evaluatedOil_step (s : State) : s.evaluatedOil.step = s.oil.step := by
  unfold State.evaluatedOil
  (repeat' split)
  · rfl
  · rfl
  · exact OilUnit.setConditions_step _

/-! ### The rule in a state -/

/-- The overlap rule with what it rests on: both pairs allowed by the parameters in force, the targets at 0 while the window
lets the parameters change (R52, R170), and no effective target outside TRACKING (R49). -/
structure State.OverlapSound (s : State) : Prop where
  window : Safety.WindowSound s
  effective : s.store.params.Allows s.target.effective
  active : s.store.params.Allows s.target.active
  age_le : s.target.age ≤ 255
  effective_zero : ∀ ch, s.channelState ch ≠ .tracking → s.target.effective.get ch = 0

theorem overlapSound_iff (s : State) : Safety.WindowSound s ∧ Safety.TargetsBounded s ↔ s.OverlapSound := by
  constructor
  · rintro ⟨window, effectiveSum, activeSum, age, channels⟩
    simp only [State.channelMax_eq] at channels
    exact
      { window := window
        effective := ⟨effectiveSum, fun ch => have ⟨lo, hi, _⟩ := channels ch; ⟨lo, hi⟩⟩
        active := ⟨activeSum, fun ch => have ⟨_, _, lo, hi, _⟩ := channels ch; ⟨lo, hi⟩⟩
        age_le := age
        effective_zero := fun ch => have ⟨_, _, _, _, zero⟩ := channels ch; zero }
  · intro h
    refine ⟨h.window, h.effective.sum_le, h.active.sum_le, h.age_le, fun ch => ?_⟩
    obtain ⟨hlo, hhi⟩ := h.effective.range ch
    obtain ⟨hlo', hhi'⟩ := h.active.range ch
    rw [State.channelMax_eq]
    exact ⟨hlo, hhi, hlo', hhi', h.effective_zero ch⟩

theorem State.overlapSound_of_reset {s : State} (ht : s.target = .atReset) (hc : s.decoder.crank = .stopped)
    (ho : s.oil.step = 0) : s.OverlapSound where
  window := fun _ => ⟨by rw [hc]; rfl, by rw [ht]; rfl, ho⟩
  effective := by rw [ht]; exact Params.allows_zero _
  active := by rw [ht]; exact Params.allows_zero _
  age_le := by rw [ht]; decide
  effective_zero := fun ch _ => by rw [ht]; exact Pair.get_both 0 ch

namespace State.OverlapSound

variable {s : State} (h : s.OverlapSound)
include h

theorem crank_unsynced (hw : s.store.windowOpen = true) : s.decoder.crank.synced = false :=
  have ⟨hcrank, _, _⟩ := h.window hw
  hcrank

theorem active_zero (hw : s.store.windowOpen = true) : s.target.active = .both 0 :=
  have ⟨_, hactive, _⟩ := h.window hw
  hactive

theorem step_zero (hw : s.store.windowOpen = true) : s.oil.step = 0 :=
  have ⟨_, _, hstep⟩ := h.window hw
  hstep

/-- The window is closed in CYCLE_SYNC (R172). -/
theorem windowClosed (hc : s.decoder.crank = .cycleSync) : ¬s.store.windowOpen = true := fun hw => by
  have hunsynced := h.crank_unsynced hw
  rw [hc] at hunsynced
  cases hunsynced

/-- An operation that lets effective targets become 0, and leaves the rest of what the rule speaks of, keeps it. -/
theorem lower {t : State} (heffective : ∀ ch, t.target.effective.get ch = s.target.effective.get ch ∨
      t.target.effective.get ch = 0)
    (hzero : ∀ ch, t.channelState ch ≠ .tracking → t.target.effective.get ch = 0)
    (hactive : t.target.active = s.target.active := by simp) (hage : t.target.age = s.target.age := by simp)
    (hstore : t.store = s.store := by simp) (hcrank : t.decoder.crank = s.decoder.crank := by simp)
    (hstep : t.oil.step = s.oil.step := by simp) : t.OverlapSound where
  window := by unfold Safety.WindowSound; rw [hactive, hstore, hcrank, hstep]; exact h.window
  effective := by rw [hstore]; exact h.effective.lower heffective
  active := by rw [hstore, hactive]; exact h.active
  age_le := by rw [hage]; exact h.age_le
  effective_zero := hzero

/-- An operation after which a channel in TRACKING is still there, and which leaves the rest of what the rule speaks of. -/
theorem congr {t : State} (hq : ∀ ch, s.channelState ch = .tracking → t.channelState ch = .tracking)
    (htarget : t.target = s.target := by simp) (hstore : t.store = s.store := by simp)
    (hcrank : t.decoder.crank = s.decoder.crank := by simp) (hstep : t.oil.step = s.oil.step := by simp) :
    t.OverlapSound :=
  h.lower (fun ch => .inl (by rw [htarget])) (fun ch hc => by rw [htarget]; exact h.effective_zero ch (mt (hq ch) hc))
    (by rw [htarget]) (by rw [htarget]) hstore hcrank hstep

/-- The same where the sequencers stay whole. -/
theorem frame {t : State} (htarget : t.target = s.target := by simp) (hstore : t.store = s.store := by simp)
    (hq : t.sequencers = s.sequencers := by simp) (hcrank : t.decoder.crank = s.decoder.crank := by simp)
    (hstep : t.oil.step = s.oil.step := by simp) : t.OverlapSound :=
  h.congr (fun ch hc => by simpa only [State.channelState, hq] using hc) htarget hstore hcrank hstep

theorem modTimers (f : Timers → Timers) : (s.modTimers f).OverlapSound := h.frame

theorem modMeter (ch : Channel) (f : Meter → Meter) : (s.modMeter ch f).OverlapSound := h.frame

theorem modEngine (f : EngineStore → EngineStore) : (s.modEngine f).OverlapSound := h.frame

theorem modController (ch : Channel) (f : Controller → Controller) : (s.modController ch f).OverlapSound := h.frame

theorem modDriver (ch : Channel) (f : Driver → Driver) : (s.modDriver ch f).OverlapSound := h.frame

theorem modSense (f : Sense → Sense) : (s.modSense f).OverlapSound := h.frame

theorem modLink (f : Link → Link) : (s.modLink f).OverlapSound := h.frame

theorem modFaults (f : Faults → Faults) : (s.modFaults f).OverlapSound := h.frame

theorem modSequencer {ch : Channel} {f : Sequencer → Sequencer}
    (hf : (f (s.sequencers.get ch)).state = (s.sequencers.get ch).state) : (s.modSequencer ch f).OverlapSound := by
  refine h.congr fun c hc => ?_
  simp only [State.channelState, State.modSequencer, Pair.get_set] at *
  split
  · next he => subst he; exact hf.trans hc
  · exact hc

/-- The crank may lose its synchronisation, but not gain it while the window is open. -/
theorem modDecoder {f : Decoder → Decoder}
    (hf : (f s.decoder).crank.synced = true → s.decoder.crank.synced = true) : (s.modDecoder f).OverlapSound :=
  { h with
    window := fun hw =>
      have hunsynced := mt hf (Bool.eq_false_iff.1 (h.crank_unsynced hw))
      ⟨Bool.eq_false_iff.2 hunsynced, h.active_zero hw, h.step_zero hw⟩ }

/-- The oil budget unit forms a step other than 0 only with the window closed. -/
theorem modOil {f : OilUnit → OilUnit} (hf : s.store.windowOpen = true → (f s.oil).step = 0) :
    (s.modOil f).OverlapSound :=
  { h with window := fun hw => ⟨h.crank_unsynced hw, h.active_zero hw, hf hw⟩ }

/-- A new active pair: allowed, and 0 and 0 while the window is open. -/
theorem retarget {f : TargetUnit → TargetUnit} (heffective : (f s.target).effective = s.target.effective)
    (hactive : s.store.params.Allows (f s.target).active)
    (hwindow : s.store.windowOpen = true → (f s.target).active = .both 0) (hage : (f s.target).age ≤ 255) :
    (s.modTarget f).OverlapSound where
  window := fun hw => ⟨h.crank_unsynced hw, hwindow hw, h.step_zero hw⟩
  effective := by simpa [heffective] using h.effective
  active := hactive
  age_le := hage
  effective_zero := fun ch hc => (congrArg (·.get ch) heffective).trans (h.effective_zero ch hc)

/-- A new effective target of a channel in TRACKING, in its range and within the room. -/
theorem setEffective {ch : Channel} {f : Int} (hc : s.channelState ch = .tracking)
    (hf : (0 ≤ f ∧ f ≤ (s.store.params.maxTarget ch : Int)) ∧
      f + s.target.effective.get (otherChannel ch) ≤ (s.store.params.overlapLimit : Int)) :
    (s.modTarget fun t => { t with effective := t.effective.set ch f }).OverlapSound :=
  { h with
    effective := h.effective.set hf.1 hf.2
    effective_zero := fun c hn => by
      have hne : c ≠ ch := by rintro rfl; exact hn hc
      exact (Pair.get_set_ne _ hne f).trans (h.effective_zero c hn) }

/-- The window closes for good: what it let change is in force from then on (R172). -/
theorem closeWindow {t : State} (hclosed : t.store = { s.store with windowOpen := false })
    (htarget : t.target = s.target := by simp) (hq : t.sequencers = s.sequencers := by simp) : t.OverlapSound where
  window := fun hw => by rw [hclosed] at hw; cases hw
  effective := by rw [hclosed, htarget]; exact h.effective
  active := by rw [hclosed, htarget]; exact h.active
  age_le := by rw [htarget]; exact h.age_le
  effective_zero := by simpa only [State.channelState, hq, htarget] using h.effective_zero

omit h in
theorem ite {p : Prop} [Decidable p] {u v : State} (hu : u.OverlapSound) (hv : v.OverlapSound) :
    (if p then u else v).OverlapSound := by
  split
  · exact hu
  · exact hv

/-! ### Channel states, exits and latches -/

theorem setChannelState (ch : Channel) (new : ChannelState) : (s.setChannelState ch new).OverlapSound := by
  have htarget := State.setChannelState_target s ch new
  refine h.lower (fun c => ?_) (fun c hc => ?_) (by rw [htarget]) (by rw [htarget])
  · rw [State.setChannelState_effective]
    split
    · exact .inr rfl
    · exact .inl rfl
  · rw [State.setChannelState_state] at hc
    rw [State.setChannelState_effective]
    split
    · rfl
    · next hstays =>
      refine h.effective_zero c fun htrack => ?_
      split at hc
      · next he => exact hstays ⟨he, he ▸ htrack, hc⟩
      · exact hc htrack

theorem setCommand (ch : Channel) (i : Nat) : (s.setCommand ch i).OverlapSound := h.frame

theorem enterReturning (ch : Channel) : (s.enterReturning ch).OverlapSound :=
  have hentered := (h.setChannelState ch .returning).modSequencer (ch := ch)
    (f := fun q => { q with returnCount := 0, returnRun := 0 }) rfl
  ite hentered (hentered.setChannelState ch .parked)

theorem exitRunning (ch : Channel) : (s.exitRunning ch).OverlapSound := ite (h.enterReturning ch) h

theorem returnRunning : s.returnRunning.OverlapSound := (h.exitRunning .a).exitRunning .b

theorem offer (k : SlotName) (f : Frame) : (s.offer k f).OverlapSound := h.frame

theorem startPulse : s.startPulse.OverlapSound := h.frame

theorem latchChannel (ch : Channel) (k : ChannelFault) : (s.latchChannel ch k).OverlapSound :=
  ite h (((h.modFaults _).setChannelState ch .fault).offer _ _).startPulse

theorem latchStation (k : StationFault) : (s.latchStation k).OverlapSound := by
  have hlatched := ((h.modFaults fun f => { f with station := f.station.add k }).offer .faultStation
    (s.modFaults fun f => { f with station := f.station.add k }).stationFaultFrame).startPulse
  refine ite h (State.OverlapSound.returnRunning ?_)
  cases k with
  | oilpSensor => exact hlatched.modOil fun _ => rfl
  | addressClash => exact hlatched
  | crankUnstable => exact hlatched

/-! ### The meters' events -/

theorem revolutionTest (ch : Channel) : (s.revolutionTest ch).OverlapSound :=
  ite ((h.modMeter ch _).latchChannel ch .camLost) (h.modMeter ch _)

theorem noiseTest (ch : Channel) : (s.noiseTest ch).OverlapSound :=
  ite ((h.modMeter ch _).latchChannel ch .camNoise) (h.modMeter ch _)

theorem parkLearning (ch : Channel) : (s.parkLearning ch).OverlapSound :=
  ite (ite (h.modMeter ch _) (h.latchChannel ch .parkOffsetRange)) h

theorem meterCycleReference (ch : Channel) : (s.meterCycleReference ch).OverlapSound :=
  (((h.parkLearning ch).modMeter ch _).noiseTest ch).modMeter ch _

/-! ### The channels' events -/

theorem startRelease (ch : Channel) : (s.startRelease ch).OverlapSound :=
  ((h.setChannelState ch .releasing).modSequencer rfl).setCommand ch _

theorem enterTracking (ch : Channel) (phase : Int) : (s.enterTracking ch phase).OverlapSound := by
  have hentered : ((s.setChannelState ch .tracking).modSequencer ch fun q =>
      { q with attempts := 3, retryHold := 0 }).OverlapSound := (h.setChannelState ch .tracking).modSequencer rfl
  have htracks : ((s.setChannelState ch .tracking).modSequencer ch fun q =>
      { q with attempts := 3, retryHold := 0 }).channelState ch = .tracking := by
    simp [State.channelState, State.setChannelState_sequencers]
  have hbounds := State.entryTarget_bounds h.effective ch phase
  exact ((hentered.setEffective htracks (f := s.entryTarget ch phase)
    (by simpa [State.setChannelState_effective] using hbounds)).modController ch _).setCommand ch _

theorem releaseProgress (ch : Channel) (phase : Int) : (s.releaseProgress ch phase).OverlapSound :=
  ite (State.OverlapSound.enterTracking (h.modSequencer rfl) ch phase) (h.modSequencer rfl)

theorem returnProgress (ch : Channel) (phase : Int) : (s.returnProgress ch phase).OverlapSound :=
  ite (State.OverlapSound.setChannelState (h.modSequencer rfl) ch .parked) (h.modSequencer rfl)

theorem trackErrorUpdate (ch : Channel) (e : Int) : (s.trackErrorUpdate ch e).OverlapSound :=
  ite (ite ((h.modController ch _).latchChannel ch .trackError) (h.modController ch _)) (h.modController ch _)

theorem reachedTest (ch : Channel) (e : Int) : (s.reachedTest ch e).OverlapSound :=
  have hmoved : ∀ m : TargetUnit → Pair Bool, (s.modTarget fun t => { t with moveOpen := m t }).OverlapSound := fun _ =>
    h.retarget rfl h.active (fun hw => h.active_zero hw) h.age_le
  ite ((hmoved _).modController ch _) h

theorem controlUpdate (ch : Channel) (phase : Int) : (s.controlUpdate ch phase).OverlapSound :=
  State.OverlapSound.trackErrorUpdate
    (((((h.modController ch _).setCommand ch _).modController ch _).reachedTest ch _).modController ch _) ch _

theorem trackingEvent {ch : Channel} (hc : s.channelState ch = .tracking) (phase : Int) :
    (s.trackingEvent ch phase).OverlapSound :=
  have hramped : (s.ramp ch).OverlapSound := h.setEffective hc (State.rampedTarget_bounds h.effective h.active ch)
  ite (hramped.enterReturning ch) (hramped.controlUpdate ch phase)

theorem phaseMeasured (ch : Channel) (phase : Int) : (s.phaseMeasured ch phase).OverlapSound := by
  cases hc : s.channelState ch with
  | parked =>
    rw [State.phaseMeasured_of_parked hc]
    exact ite (h.startRelease ch) h
  | releasing =>
    rw [State.phaseMeasured_of_releasing hc]
    exact h.releaseProgress ch phase
  | tracking =>
    rw [State.phaseMeasured_of_tracking hc]
    exact h.trackingEvent hc phase
  | returning =>
    rw [State.phaseMeasured_of_returning hc]
    exact h.returnProgress ch phase
  | fault => rwa [State.phaseMeasured_of_fault hc]

theorem releaseTick (ch : Channel) : (s.releaseTick ch).OverlapSound :=
  have htimed : ∀ n : Nat, ((s.modSequencer ch fun q => { q with releaseCount := n }).modSequencer ch fun q =>
      { q with attempts := q.attempts - 1, retryHold := 2 }).OverlapSound :=
    fun _ => (h.modSequencer rfl).modSequencer rfl
  ite (ite ((htimed _).latchChannel ch .lockStuck) ((htimed _).setChannelState ch .parked)) (h.modSequencer rfl)

theorem returnTick (ch : Channel) : (s.returnTick ch).OverlapSound :=
  ite (State.OverlapSound.latchChannel (h.modSequencer rfl) ch .noReturn) (h.modSequencer rfl)

theorem retryTick (ch : Channel) : (s.retryTick ch).OverlapSound := h.modSequencer rfl

theorem sequencerTick (ch : Channel) : (s.sequencerTick ch).OverlapSound := by
  have hheld : ∀ (p : Prop) [Decidable p], (if p then s.retryTick ch else s).OverlapSound :=
    fun p _ => ite (h.retryTick ch) h
  have hreleased : ∀ u : State, u.OverlapSound →
      (if u.channelState ch = .releasing then u.releaseTick ch else u).OverlapSound :=
    fun u hu => ite (hu.releaseTick ch) hu
  have hreturned : ∀ u : State, u.OverlapSound →
      (if u.channelState ch = .returning then u.returnTick ch else u).OverlapSound :=
    fun u hu => ite (hu.returnTick ch) hu
  exact hreturned _ (hreleased _ (hheld _))

theorem engineAging : s.engineAging.OverlapSound := ite (h.modEngine _).returnRunning (h.modEngine _)

/-! ### The cycle reference at every block -/

/-- The target unit brings a new pair into force in CYCLE_SYNC only, with the window closed (R47, R172). -/
theorem targetCycleReference (hc : s.decoder.crank = .cycleSync) : s.targetCycleReference.OverlapSound :=
  have hgrown : (s.modTarget fun t => ((t.transfer s.store.params).grow).expire s.store.params).OverlapSound :=
    h.retarget (by simp [TargetUnit.grow])
      (TargetUnit.expire_allowed (TargetUnit.transfer_allowed (t := s.target) h.active))
      (fun hw => absurd hw (h.windowClosed hc)) (by simpa [TargetUnit.grow] using bump_le 255 _)
  ite hgrown.returnRunning hgrown

theorem evaluateOil : s.evaluateOil.OverlapSound := h.frame (hstep := s.evaluatedOil_step)

theorem oilConditions : s.oilConditions.OverlapSound := ite h.evaluateOil.returnRunning h.evaluateOil

/-- The oil budget unit forms its step in CYCLE_SYNC only, with the window closed (R68, R172). -/
theorem budgetCompute (hc : s.decoder.crank = .cycleSync) : s.budgetCompute.OverlapSound := by
  rw [State.budgetCompute]
  exact h.modOil fun hw => absurd hw (h.windowClosed hc)

theorem oilCycleReference (hc : s.decoder.crank = .cycleSync) : s.oilCycleReference.OverlapSound :=
  have hformed := h.evaluateOil.budgetCompute hc
  ite hformed.returnRunning hformed

theorem sequencerCycleReference : s.sequencerCycleReference.OverlapSound := by
  rw [State.sequencerCycleReference, State.eachChannel_def]
  exact (h.engineAging.sequencerTick .a).sequencerTick .b

theorem resistanceTrim (ch : Channel) : (s.resistanceTrim ch).OverlapSound := h.frame

theorem queueStatus : s.queueStatus.OverlapSound := h.frame

theorem takeCycleReference (hc : s.decoder.crank = .cycleSync) (b : CycleBlock) :
    (s.takeCycleReference b).OverlapSound := by
  cases b with
  | meterA => exact h.meterCycleReference .a
  | meterB => exact h.meterCycleReference .b
  | target => exact h.targetCycleReference hc
  | oil => exact h.oilCycleReference hc
  | sequencer => exact h.sequencerCycleReference
  | driverA => exact h.resistanceTrim .a
  | driverB => exact h.resistanceTrim .b
  | statusAssembly => exact h.queueStatus

theorem cycleReference (hc : s.decoder.crank = .cycleSync) (order : List CycleBlock) :
    (s.cycleReference order).OverlapSound := by
  unfold State.cycleReference
  generalize blockOrder order = blocks
  induction blocks generalizing s with
  | nil => exact h
  | cons b bs ih => exact ih (h.takeCycleReference hc b) (by simpa using hc)

/-! ### The decoder's events -/

theorem syncReset : (s.modTarget TargetUnit.syncReset).OverlapSound :=
  h.retarget rfl (Params.allows_zero _) (fun _ => rfl) le_rfl

theorem channelSyncLost (ch : Channel) : (s.channelSyncLost ch).OverlapSound := by
  unfold State.channelSyncLost
  split
  · exact h
  · exact h.enterReturning ch
  · exact h.enterReturning ch
  · exact h.setChannelState ch .parked
  · exact h

theorem startStatusTimer : s.startStatusTimer.OverlapSound := h.frame

theorem publishSyncLost : s.publishSyncLost.OverlapSound :=
  have hreset := ((h.modMeter .a Meter.syncLost).modMeter .b Meter.syncLost).syncReset
  have hoil := hreset.modOil (f := OilUnit.syncLost) fun hw => hreset.step_zero hw
  ((hoil.channelSyncLost .a).channelSyncLost .b).startStatusTimer

theorem countLoss : s.countLoss.OverlapSound :=
  ite (State.OverlapSound.latchStation (h.modDecoder id) .crankUnstable) (h.modDecoder id)

theorem toothError (t : Tick) : (s.toothError t).OverlapSound :=
  State.OverlapSound.countLoss
    (State.OverlapSound.publishSyncLost (h.modDecoder (f := fun d => d.toothError t) fun hc => by cases hc))

theorem publishRevolution : s.publishRevolution.OverlapSound := (h.revolutionTest .a).revolutionTest .b

/-- The window closes as the crank comes to REV_SYNC (R172). -/
theorem gainRevSync (t : Tick) : (s.gainRevSync t).OverlapSound := h.closeWindow rfl

theorem closeRevolution (t : Tick) (order : List CycleBlock) : (s.closeRevolution t order).OverlapSound := by
  unfold State.closeRevolution
  split
  · exact State.OverlapSound.publishRevolution (h.modDecoder id)
  · next hc _ =>
    have hcrank : ∀ d : Decoder, d.cycleReference.crank = d.crank := fun d => by
      simp [Decoder.cycleReference, Decoder.countCleanCycle_eq]
    have hcycle : (s.modDecoder fun d => { d.toothZero t with half := some .zero }.cycleReference).OverlapSound :=
      h.modDecoder fun hsynced => by rwa [hcrank] at hsynced
    exact hcycle.publishRevolution.cycleReference (by simp [hcrank, Decoder.toothZero, Decoder.accept, hc]) order
  · exact State.OverlapSound.publishRevolution (h.modDecoder id)

theorem syncedEdge (t : Tick) (order : List CycleBlock) : (s.syncedEdge t order).OverlapSound := by
  simp only [State.syncedEdge]
  split
  · exact ite (ite (h.modDecoder id) (h.toothError t)) (ite (h.closeRevolution t order) (h.toothError t))
  · exact h.toothError t

theorem seekEdge (t : Tick) : (s.seekEdge t).OverlapSound := by
  simp only [State.seekEdge]
  split
  · exact h.modDecoder id
  · exact ite (h.gainRevSync t) (h.modDecoder id)

theorem crankEdge (t : Tick) (order : List CycleBlock) : (s.crankEdge t order).OverlapSound := by
  refine ite h ?_
  split
  · exact h.modDecoder fun hc => by cases hc
  · exact h.seekEdge t
  · exact h.syncedEdge t order
  · exact h.syncedEdge t order

theorem stall : s.stall.OverlapSound := by
  have hstopped : (s.modDecoder Decoder.stall).OverlapSound := h.modDecoder fun hc => by cases hc
  unfold State.stall
  split
  · exact h
  · exact hstopped
  · exact hstopped.publishSyncLost
  · exact hstopped.publishSyncLost

theorem measureEdge (ch : Channel) (angle : Nat) : (s.measureEdge ch angle).OverlapSound := by
  simp only [State.measureEdge]
  split
  · exact h.modMeter ch _
  · exact ite (h.modMeter ch _) ((h.modMeter ch _).phaseMeasured ch _)

theorem captureEdge (ch : Channel) (angle : Option Nat) : (s.captureEdge ch angle).OverlapSound := by
  have hseen := h.modMeter ch fun m => { m with edgeSeen := true, missing := 0 }
  cases angle with
  | none => exact hseen
  | some a => exact hseen.measureEdge ch a

theorem publishCycleSync : s.publishCycleSync.OverlapSound :=
  have hoil := h.syncReset.modOil (f := OilUnit.syncGained) fun hw => h.step_zero hw
  hoil.frame rfl (hstep := rfl)

/-- A cam edge finds or loses the half of the cycle, in REV_SYNC and CYCLE_SYNC (R18, R19). -/
theorem camEdge (ch : Channel) (t : Tick) : (s.camEdge ch t).OverlapSound := by
  have hmarked : ∀ rev, (s.modDecoder fun d => { d with prevCam := d.prevCam.set ch rev }).OverlapSound :=
    fun _ => h.modDecoder id
  simp only [State.camEdge]
  split
  · exact h
  · exact h
  · next hc =>
    have hsynced : s.decoder.crank.synced = true := by rw [hc]; rfl
    split
    · have hgained := (hmarked (some (s.decoder.revAngle t))).modDecoder
        (f := fun d => { d with crank := .cycleSync, half := some (closePairHalf s.straps.role) }) fun _ => hsynced
      exact hgained.publishCycleSync.captureEdge ch _
    · exact (hmarked _).captureEdge ch none
  · next hc =>
    have hsynced : s.decoder.crank.synced = true := by rw [hc]; rfl
    split
    · have hlost := (hmarked (some (s.decoder.revAngle t))).modDecoder (f := Decoder.halfConflict) fun _ => hsynced
      exact (hlost.publishSyncLost.captureEdge ch none).countLoss
    · exact (hmarked _).captureEdge ch _

theorem deliverEdge (pin : AnglePin) (t : Tick) (order : List CycleBlock) :
    (s.deliverEdge pin t order).OverlapSound := by
  unfold State.deliverEdge
  split
  · exact h.crankEdge t order
  · exact h.camEdge _ t

/-! ### Samples and frames -/

theorem elapse (n : Nat) : (s.elapse n).OverlapSound := h.frame

theorem completeSlot : s.completeSlot.OverlapSound := h.frame

theorem openCoilTest (ch : Channel) (sample : Nat) : (s.openCoilTest ch sample).OverlapSound :=
  ite (ite ((h.modDriver ch _).latchChannel ch .openCoil) (h.modDriver ch _)) (h.modDriver ch _)

theorem modConditions_computeDuties (f : Conditions → Conditions) : (s.modConditions f).computeDuties.OverlapSound :=
  h.frame

theorem evaluateSupply (v : Int) : (s.evaluateSupply v).OverlapSound :=
  ite (h.modConditions_computeDuties _).returnRunning (h.modConditions_computeDuties _)

theorem evaluateDerate (t : Int) : (s.evaluateDerate t).OverlapSound := h.frame

theorem evaluateThermalCut (t : Int) : (s.evaluateThermalCut t).OverlapSound :=
  ite h (ite (h.modConditions_computeDuties _).returnRunning (h.modConditions_computeDuties _))

theorem rangeCheck (code : Code12) : (s.rangeCheck code).OverlapSound :=
  ite (h.modSense _) (ite ((h.modSense _).latchStation .oilpSensor) (h.modSense _))

theorem tripDriver (ch : Channel) : (s.tripDriver ch).OverlapSound :=
  (h.modDriver ch _).latchChannel ch .overcurrent

/-- A CLEAR moves a channel out of FAULT only (R94). -/
theorem takeClear (w : Word16) : (s.takeClear w).OverlapSound := by
  refine h.congr (fun ch hc => ?_) (by rw [State.takeClear_eq]) (hcrank := ?_)
  · rw [State.takeClear_eq]
    simp only [State.channelState, Pair.get_replaceWhere] at *
    split
    · simp [State.sequencerAfterClear, State.channelState, hc]
    · exact hc
  · rw [State.takeClear_decoder]
    split <;> rfl

theorem engineArrival (code : Word16) : (s.engineArrival code).OverlapSound := by
  simp only [State.engineArrival]
  split
  · exact h.modEngine _
  · exact (h.modEngine _).returnRunning

theorem targetArrival (addressed : Bool) (mode intake exhaust : Word16) :
    (s.modTarget fun t => t.arrival addressed mode intake exhaust).OverlapSound := by
  cases addressed with
  | false => exact h
  | true => exact h.retarget rfl h.active (fun hw => h.active_zero hw) (Nat.zero_le _)

/-- CONFIG changes the parameters with the window open only, when both pairs stand at 0 (R169, R170). -/
theorem takeConfig (hidle : s.store.windowOpen = true → ∀ ch, s.channelState ch ≠ .tracking) (addressed : Bool)
    (id value : Word16) : (s.takeConfig addressed id value).OverlapSound := by
  cases hw : s.store.windowOpen with
  | false =>
    have hignored : s.takeConfig addressed id value = s := by simp [State.takeConfig, hw]
    rwa [hignored]
  | true =>
    have htarget : (s.takeConfig addressed id value).target = s.target := by simp
    have heffective : s.target.effective = .both 0 :=
      Pair.ext_get fun ch => (h.effective_zero ch (hidle hw ch)).trans (Pair.get_both 0 ch).symm
    exact
      { window := fun _ => by simpa [htarget] using h.window hw
        effective := by rw [htarget, heffective]; exact Params.allows_zero _
        active := by rw [htarget, h.active_zero hw]; exact Params.allows_zero _
        age_le := by rw [htarget]; exact h.age_le
        effective_zero := fun ch _ => by rw [htarget, heffective, Pair.get_both] }

theorem takeClose (addressed : Bool) : (s.takeClose addressed).OverlapSound := ite (h.closeWindow rfl) h

theorem takeRestart (addressed : Bool) (straps : Straps) : (s.takeRestart addressed straps).OverlapSound :=
  ite (State.overlapSound_of_reset rfl rfl rfl) h

theorem deliver (hidle : s.store.windowOpen = true → ∀ ch, s.channelState ch ≠ .tracking) (f : Frame)
    (straps : Straps) : (s.deliver f straps).OverlapSound := by
  unfold State.deliver
  split
  · exact h.targetArrival _ _ _ _
  · exact h.engineArrival _
  · exact h.modOil fun hw => h.step_zero hw
  · exact h.takeClear _
  · exact h.takeConfig hidle _ _ _
  · exact h.takeClose _
  · exact h.takeRestart _ straps
  · exact h

theorem receive (hidle : s.store.windowOpen = true → ∀ ch, s.channelState ch ≠ .tracking) (f : Frame)
    (straps : Straps) : (s.receive f straps).OverlapSound :=
  have hread : (s.atBitRead fun l => l.endFrame.countGood).OverlapSound := h.frame
  ite (ite ((hread.modLink _).latchStation .addressClash) (ite (hread.deliver hidle f straps) hread)) h

end State.OverlapSound

/-! ### Commands and steps -/

theorem act_overlapSound {s t : State} {f : State → State} (h : s.OverlapSound) (hact : act s f = .next t)
    (hf : (f s).OverlapSound) : t.OverlapSound := by
  obtain rfl : (if s.supplyLow then s else f s) = t := Host.Outcome.next.inj hact
  exact .ite h hf

theorem execPowerOnReset_overlapSound {s t : State} {edge : SupplyEdge} {pins : StrapPins} (h : s.OverlapSound)
    (hexec : execPowerOnReset edge pins s = .next t) : t.OverlapSound := by
  cases edge with
  | falls => cases hexec; exact State.overlapSound_of_reset rfl rfl rfl
  | rises =>
    obtain rfl := Host.Outcome.next.inj hexec
    exact .ite (State.overlapSound_of_reset rfl rfl rfl) h

theorem execGlitch_overlapSound {s t : State} {pin : AnglePin} (h : s.OverlapSound)
    (hexec : execGlitch pin s = .next t) : t.OverlapSound := by
  have hclosed : (s.closeCandidate pin).OverlapSound := h.frame
  refine act_overlapSound h hexec (.ite ?_ h)
  simp only
  split
  · exact hclosed
  · exact .ite (hclosed.modMeter _ _) hclosed

theorem execFilterTimeExpiry_overlapSound {s t : State} {pin : AnglePin} {order : List CycleBlock} (h : s.OverlapSound)
    (hexec : execFilterTimeExpiry pin order s = .next t) : t.OverlapSound := by
  refine act_overlapSound h hexec ?_
  split
  · exact h
  · have hrecognised : ∀ n, ((s.elapse n).recognise pin).OverlapSound := fun _ => h.frame
    simp only
    split
    · exact hrecognised _
    · exact (hrecognised _).deliverEdge pin _ order

theorem execParkRequestRecognised_overlapSound {s t : State} (h : s.OverlapSound)
    (hexec : execParkRequestRecognised s = .next t) : t.OverlapSound := by
  refine act_overlapSound h hexec ?_
  split
  · exact h
  · have hrequest : ∀ n f g, (((s.elapse n).modTimers f).modEngine g).OverlapSound :=
      fun n f g => ((h.elapse n).modTimers f).modEngine g
    exact .ite (hrequest _ _ _).returnRunning (hrequest _ _ _)

theorem exec_overlapSound {c : Instr} {s t : State} (h : s.OverlapSound)
    (hidle : s.store.windowOpen = true → ∀ ch, s.channelState ch ≠ .tracking) (hexec : exec c s = .next t) :
    t.OverlapSound := by
  cases c with
  | powerOnReset => exact execPowerOnReset_overlapSound h hexec
  | glitch => exact execGlitch_overlapSound h hexec
  | filterTimeExpiry => exact execFilterTimeExpiry_overlapSound h hexec
  | parkRequestRecognised => exact execParkRequestRecognised_overlapSound h hexec
  | parkPinChange => cases hexec; exact h.frame rfl rfl rfl rfl rfl
  | stallTimerExpiry => exact act_overlapSound h hexec (.ite (h.elapse _).stall h)
  | crankUnstable => exact act_overlapSound h hexec (.ite h.countLoss h)
  | lossFreeRunExpiry =>
    exact act_overlapSound h hexec (.ite (h.modDecoder (by simp [Decoder.countCleanCycle_eq])) h)
  | camLost ch => exact act_overlapSound h hexec (.ite (h.revolutionTest ch) h)
  | camNoise ch => exact act_overlapSound h hexec (.ite (h.noiseTest ch) h)
  | target | status | engine | clear | config | close | restart | faultFrameReceived =>
    exact act_overlapSound h hexec (h.receive hidle _ _)
  | framePassedOver | addressClash => exact act_overlapSound h hexec (.ite (h.receive hidle _ _) h)
  | oilReady | oilLow => exact act_overlapSound h hexec (.ite h.oilConditions h)
  | engineStateStale => exact act_overlapSound h hexec (.ite h.engineAging h)
  | releaseTimeout ch => exact act_overlapSound h hexec (.ite (h.releaseTick ch) h)
  | retryHoldExpiry ch => exact act_overlapSound h hexec (.ite (h.retryTick ch) h)
  | noReturn ch => exact act_overlapSound h hexec (.ite (h.returnTick ch) h)
  | currentSample ch =>
    exact act_overlapSound h hexec (.ite ((h.completeSlot.modSense _).openCoilTest ch _) h)
  | oilpSample => exact act_overlapSound h hexec (.ite ((h.completeSlot.modSense _).rangeCheck _) h)
  | oilpSensor => exact act_overlapSound h hexec (.ite (h.rangeCheck _) h)
  | vsupSample => exact act_overlapSound h hexec (.ite ((h.completeSlot.modSense _).evaluateSupply _) h)
  | tdieSample =>
    exact act_overlapSound h hexec
      (.ite (((h.completeSlot.modSense _).evaluateDerate _).evaluateThermalCut _) h)
  | targetStale =>
    refine act_overlapSound h hexec ?_
    split
    · next hstale => exact h.targetCycleReference hstale.1
    · exact h
  | peerEntryExpiry =>
    refine act_overlapSound h hexec ?_
    split
    · next hexpires => exact h.budgetCompute hexpires.1
    · exact h
  | releaseSuccess ch =>
    dsimp only [exec, execReleaseSuccess] at hexec
    refine act_overlapSound h hexec ?_
    split
    · exact h
    · exact .ite (h.releaseProgress ch _) h
  | returnArrival ch =>
    dsimp only [exec, execReturnArrival] at hexec
    refine act_overlapSound h hexec ?_
    split
    · exact h
    · exact .ite (h.returnProgress ch _) h
  | trackError ch =>
    dsimp only [exec, execTrackError] at hexec
    refine act_overlapSound h hexec ?_
    split
    · exact h
    · exact .ite (h.trackErrorUpdate ch _) h
  | overcurrent ch =>
    dsimp only [exec, execOvercurrent] at hexec
    refine act_overlapSound h hexec ?_
    split
    · exact h
    · exact .ite ((h.elapse _).tripDriver ch) h
  | openCoil ch =>
    dsimp only [exec, execOpenCoil] at hexec
    refine act_overlapSound h hexec ?_
    split
    · exact h
    · exact .ite (h.openCoilTest ch _) h
  | _ =>
    dsimp only [exec, execFilterCandidateOpen, execNullTransfer, execPwmPeriodStart,
      execOnTimeEnd, execOpenCoilBlankingExpiry, execFrameDiscarded, execLinkErrors, execLinkErrorsCleared,
      execSendStart, execLostArbitration, execBitError, execSlotDrop, execTransmissionComplete, execBusStuck,
      execBusStuckCleared, execStatusTimerExpiry, execFaultPulseExpiry, execStartBit, State.discard,
      State.loseArbitration, State.failBit] at hexec
    refine act_overlapSound h hexec ?_
    (repeat' split) <;> exact h.frame

theorem step_overlapSound {s t : State} (h : s.OverlapSound)
    (hidle : s.store.windowOpen = true → ∀ ch, s.channelState ch ≠ .tracking) (hstep : step s = .next t) :
    t.OverlapSound := by
  unfold step at hstep
  split at hstep
  · obtain rfl := Host.Outcome.next.inj hstep
    exact .ite h (h.elapse 1)
  · next rest _ =>
    have hqueue : State.OverlapSound { s with pending := rest } := h.frame
    exact exec_overlapSound hqueue hidle hstep

/-- While the window is open no channel runs (R76). -/
theorem not_tracking_of_windowOpen {s : State} (h : Safety.RunConditionsHold s) (hw : s.store.windowOpen = true)
    (ch : Channel) : s.channelState ch ≠ .tracking := by
  intro hc
  have hrun := (s.runConditions_iff ch).1 (h ch (by rw [hc]; rfl))
  obtain ⟨_, hclosed, _⟩ := hrun
  rw [hw] at hclosed
  cases hclosed

/-- Settles O52: every operation keeps the overlap rule; CONFIG does because no channel is in TRACKING then. -/
theorem overlapBoundKept : Obligations.OverlapBoundKept := fun s t hrun hwindow htargets hstep =>
  (overlapSound_iff t).2
    (step_overlapSound ((overlapSound_iff s).1 ⟨hwindow, htargets⟩) (not_tracking_of_windowOpen hrun) hstep)

end Sys2Proof.Machine
end

section
/-! PROOF. The state right after reset meets every rule of Safety.lean (O48): one lemma for each block. -/

namespace Sys2Proof.Machine

open Safety

theorem reset_channels_parked (ch : Channel) : State.reset.channelState ch = .parked := by cases ch <;> rfl

theorem faultStateAgrees_reset : FaultStateAgrees State.reset := by
  intro ch
  cases ch <;> decide

theorem runConditionsHold_reset : RunConditionsHold State.reset := fun ch hrun => by
  rw [reset_channels_parked] at hrun
  cases hrun

theorem commandBounded_reset : CommandBounded State.reset := by
  intro ch
  cases ch <;> decide

theorem controlBounded_reset : ControlBounded State.reset := by
  intro ch c
  have hc : c = .atReset := Pair.get_both _ ch
  rw [hc]
  refine ⟨by decide, by decide, by decide, by decide, fun e he => ?_, by decide, by decide⟩
  cases he

theorem dutyCurrent_reset : DutyCurrent State.reset := by
  intro ch
  cases ch <;> decide

theorem resistanceBounded_reset : ResistanceBounded State.reset := by
  intro ch
  cases ch <;> decide

theorem peerTableSound_reset : PeerTableSound State.reset := ⟨.nil, fun e he => by cases he⟩

theorem oilSound_reset : OilSound State.reset := by
  unfold OilSound
  decide

theorem timersSound_reset : TimersSound State.reset := by
  refine ⟨by decide, by decide, by decide, by decide, fun c hc => ?_, fun ch => by cases ch <;> decide, fun n hn => ?_,
    fun n hn => ?_, fun ch n hn => ?_, by decide, by decide⟩
  · cases hc; decide
  · cases hn
  · cases hn
  · cases ch <;> cases hn

theorem sequencerSound_reset : SequencerSound State.reset :=
  ⟨by decide, fun ch => by cases ch <;> decide⟩

theorem linkSound_reset : LinkSound State.reset := by
  have hempty : ∀ k, State.reset.link.slot k = .empty := fun k => by cases k <;> rfl
  refine ⟨by decide, by decide, by decide, by decide, .refl _, fun k => ?_, fun k _ => hempty k, fun k hk => ?_,
    fun k f hf => ?_, fun hs => ?_⟩
  · rw [hempty]; decide
  · rw [hempty] at hk; cases hk
  · cases hf
  · cases hs

/-- The defaults of the parameter table lie in the ranges beside them (R168). -/
theorem paramsSound_reset : ParamsSound State.reset := by
  refine ⟨fun id lo hi hrange => ?_, by decide⟩
  unfold paramRange at hrange
  split at hrange <;> cases hrange <;> decide

theorem senseSound_reset : SenseSound State.reset := by
  refine ⟨by decide, fun ch i hi => ?_, fun p hp => ?_, fun v hv => ?_, fun t ht => ?_⟩
  · cases ch <;> cases hi
  · cases hp
  · cases hv
  · cases ht

/-- Settles O48: every rule of Safety.lean by the lemma about its block. -/
theorem resetIsSafe : Obligations.ResetIsSafe := by
  obtain ⟨hwindow, htargets⟩ := (overlapSound_iff _).2 (State.overlapSound_of_reset (s := .reset) rfl rfl rfl)
  have hdecoder := (decoderSound_iff .reset).2 Decoder.atReset_sound
  have hmeters := (metersSound_iff .reset).2 (State.metersSound_of_reset rfl)
  exact ⟨faultStateAgrees_reset, runConditionsHold_reset, commandBounded_reset, hwindow, htargets, controlBounded_reset,
    dutyCurrent_reset, resistanceBounded_reset, peerTableSound_reset, oilSound_reset, hdecoder, hmeters,
    timersSound_reset, sequencerSound_reset, linkSound_reset, paramsSound_reset, senseSound_reset⟩

end Sys2Proof.Machine
end

section
/-! PROOF. The peer table and the oil budget unit's items by themselves, the budget computation (O19), the oil conditions (O18)
and the STATUS frame (O20). -/

namespace Sys2Proof.Machine

/-! ### The peer table (R66, R67, R68) -/

/-- The order of the model's list: rising addresses (log entry 11). -/
def PeerEntry.Before (e f : PeerEntry) : Prop := e.address.toNat < f.address.toNat

section PeerTable

variable {ps : List PeerEntry}

/-- The written table has the new entry, and every old one of another address (R66, R67). -/
theorem mem_writePeer (h : ps.Pairwise PeerEntry.Before) (a : Address) (claim : Nat) (e : PeerEntry) :
    e ∈ writePeer a claim ps ↔ e = ⟨a, claim, 0⟩ ∨ (e ∈ ps ∧ e.address ≠ a) := by
  induction ps with
  | nil => simp [writePeer]
  | cons x xs ih =>
    obtain ⟨hx, hxs⟩ := List.pairwise_cons.1 h
    unfold writePeer
    split
    · next hlt =>
      have hne : ∀ f ∈ x :: xs, f.address ≠ a := by
        rintro f hf rfl
        rcases List.mem_cons.1 hf with rfl | hf
        · exact lt_irrefl _ hlt
        · exact lt_asymm hlt (hx f hf)
      rw [List.mem_cons]
      exact or_congr_right ⟨fun hf => ⟨hf, hne e hf⟩, And.left⟩
    · split
      · next heq =>
        have hne : ∀ f ∈ xs, f.address ≠ a := by
          rintro f hf rfl
          exact absurd (hx f hf) (by simp [PeerEntry.Before, heq])
        simp only [List.mem_cons]
        refine or_congr_right ⟨fun hf => ⟨.inr hf, hne e hf⟩, ?_⟩
        rintro ⟨rfl | hf, hother⟩
        · exact absurd heq.symm hother
        · exact hf
      · next hne =>
        have hxa : x.address ≠ a := Ne.symm hne
        rw [List.mem_cons, ih hxs, List.mem_cons]
        constructor
        · rintro (rfl | rfl | ⟨hf, hother⟩)
          · exact .inr ⟨.inl rfl, hxa⟩
          · exact .inl rfl
          · exact .inr ⟨.inr hf, hother⟩
        · rintro (rfl | ⟨rfl | hf, hother⟩)
          · exact .inr (.inl rfl)
          · exact .inl rfl
          · exact .inr (.inr ⟨hf, hother⟩)

/-- Writing an entry keeps the list's order. -/
theorem writePeer_pairwise (h : ps.Pairwise PeerEntry.Before) (a : Address) (claim : Nat) :
    (writePeer a claim ps).Pairwise PeerEntry.Before := by
  induction ps with
  | nil => exact List.pairwise_singleton _ _
  | cons x xs ih =>
    obtain ⟨hx, hxs⟩ := List.pairwise_cons.1 h
    unfold writePeer
    split
    · next hlt =>
      refine List.pairwise_cons.2 ⟨fun f hf => ?_, h⟩
      rcases List.mem_cons.1 hf with rfl | hf
      · exact hlt
      · exact lt_trans hlt (hx f hf)
    · split
      · next heq => exact List.pairwise_cons.2 ⟨fun f hf => by rw [PeerEntry.Before, heq]; exact hx f hf, hxs⟩
      · next hle hne =>
        refine List.pairwise_cons.2 ⟨fun f hf => ?_, ih hxs⟩
        rcases (mem_writePeer hxs a claim f).1 hf with rfl | ⟨hf, _⟩
        · exact lt_of_le_of_ne (not_lt.1 hle) fun htoNat => hne (BitVec.eq_of_toNat_eq htoNat.symm)
        · exact hx f hf

/-- What R66 to R68 hold of the table of a part with the own address `own`. -/
structure PeersSound (own : Address) (ps : List PeerEntry) : Prop where
  rising : ps.Pairwise PeerEntry.Before
  entry : ∀ e ∈ ps, e.address ≠ own ∧ e.claim ≤ 30 ∧ e.age ≤ 16

theorem PeersSound.nil (own : Address) : PeersSound own [] := ⟨.nil, fun _ he => by cases he⟩

variable {own : Address} (h : PeersSound own ps)
include h

theorem PeersSound.write {a : Address} (ha : a ≠ own) {claim : Nat} (hc : claim ≤ 30) :
    PeersSound own (writePeer a claim ps) where
  rising := writePeer_pairwise h.rising a claim
  entry := fun e he => by
    rcases (mem_writePeer h.rising a claim e).1 he with rfl | ⟨he, _⟩
    · exact ⟨ha, hc, Nat.zero_le _⟩
    · exact h.entry e he

/-- Entries that keep their address and their claim keep the table's rule, if the new ages lie in range. -/
theorem PeersSound.setAges {f : PeerEntry → Nat} (hf : ∀ e ∈ ps, f e ≤ 16) :
    PeersSound own (ps.map fun e => { e with age := f e }) where
  rising := List.pairwise_map.2 h.rising
  entry := fun e he => by
    obtain ⟨old, hold, rfl⟩ := List.mem_map.1 he
    obtain ⟨haddress, hclaim, _⟩ := h.entry old hold
    exact ⟨haddress, hclaim, hf old hold⟩

/-- The ageing of step 1 removes what leaves the range of ages (R68). -/
theorem PeersSound.age : PeersSound own (agePeers ps) where
  rising := List.Pairwise.filter _ (List.pairwise_map.2 h.rising)
  entry := fun e he => by
    obtain ⟨hmem, hage⟩ := List.mem_filter.1 he
    obtain ⟨old, hold, rfl⟩ := List.mem_map.1 hmem
    obtain ⟨haddress, hclaim, _⟩ := h.entry old hold
    exact ⟨haddress, hclaim, of_decide_eq_true hage⟩

/-- There are eight addresses, and the own one has no entry (R66). -/
theorem PeersSound.length_le : ps.length ≤ 7 := by
  have hdistinct : (own.toFin :: ps.map fun e => e.address.toFin).Nodup := by
    refine List.nodup_cons.2 ⟨fun hown => ?_, List.pairwise_map.2 (h.rising.imp fun hlt heq => ?_)⟩
    · obtain ⟨e, he, hfin⟩ := List.mem_map.1 hown
      obtain ⟨haddress, _, _⟩ := h.entry e he
      exact haddress (BitVec.toFin_inj.1 hfin)
    · exact Nat.ne_of_lt hlt (congrArg Fin.val heq)
  simpa [Nat.lt_succ_iff] using hdistinct.length_le_card

/-- The claims of at most seven peers (R68, step 3). -/
theorem PeersSound.freshClaims_le : freshClaims ps ≤ 210 := by
  have hclaims : freshClaims ps ≤ ((ps.filter fun e => decide (e.age ≤ 3)).map PeerEntry.claim).length • 30 := by
    refine List.sum_le_card_nsmul _ 30 fun c hc => ?_
    obtain ⟨e, he, rfl⟩ := List.mem_map.1 hc
    obtain ⟨_, hclaim, _⟩ := h.entry e (List.mem_of_mem_filter he)
    exact hclaim
  have hfew : (ps.filter fun e => decide (e.age ≤ 3)).length ≤ ps.length := List.length_filter_le _ _
  have hlength := h.length_le
  rw [List.length_map, smul_eq_mul] at hclaims
  omega

end PeerTable

/-! ### Claims, budget and step (R64, R65, R68) -/

theorem channelClaim_le (c : ChannelState) (e : Option Int) : channelClaim c e ≤ 15 := by
  unfold channelClaim
  split
  · split <;> omega
  all_goals decide

theorem State.ownClaim_le (s : State) : s.ownClaim ≤ 30 := by
  have ha := channelClaim_le (s.channelState .a) (s.controllers.get .a).lastError
  have hb := channelClaim_le (s.channelState .b) (s.controllers.get .b).lastError
  unfold State.ownClaim
  omega

theorem budgetOf_le (p : Params) (pressure : Int) : budgetOf p pressure ≤ 60 := by
  have := limit_bounds (lo := 0) (hi := 60) (by decide) (divTrunc (pressure - p.budgetZero) p.budgetStep)
  unfold budgetOf
  omega

theorem State.budgetNow_le (s : State) : s.budgetNow ≤ 60 := by
  unfold State.budgetNow
  (repeat' split)
  · decide
  · decide
  · exact budgetOf_le _ _

theorem State.budgetNow_of_pressure {s : State} {p : Int} (hp : s.sense.pressure = some p) :
    s.budgetNow = if s.faults.station.oilpSensor = true then 0 else budgetOf s.store.params p := by
  simp only [State.budgetNow, hp]
  rfl

/-- A budget below the demand leaves its share of the slew limit, and 1 where that is 0 (R68, step 5). -/
theorem stepOf_le {slewMax : Nat} (h : 1 ≤ slewMax) (budget demand : Nat) : stepOf slewMax budget demand ≤ slewMax := by
  unfold stepOf
  split
  · exact Nat.zero_le _
  · split
    · exact le_rfl
    · next hshort =>
      have hshare : slewMax * budget / demand ≤ slewMax :=
        Nat.div_le_of_le_mul (by rw [mul_comm demand]; exact Nat.mul_le_mul_left _ (by omega))
      exact max_le h hshare

theorem stepOf_zero (slewMax demand : Nat) : stepOf slewMax 0 demand = 0 := by simp [stepOf]

/-- The claim of a channel, by its state and its last control error together (R64). -/
theorem channelClaim_eq (c : ChannelState) (e : Option Int) :
    channelClaim c e =
      match c, e with
      | .tracking, some e => min 15 (e.natAbs / 40)
      | .releasing, _ => 8
      | _, _ => 0 := by
  cases c <;> cases e <;> rfl

/-- Settles O19: the model's six steps, with each channel's claim by its state and the budget by the pressure in force. -/
theorem budgetComputed : Obligations.BudgetComputed := by
  intro p s hp peers claim c t b
  have hc : s.ownClaim = c := congrArg₂ (· + ·) (channelClaim_eq _ _) (channelClaim_eq _ _)
  have hb : s.budgetNow = b := State.budgetNow_of_pressure hp
  rw [State.budgetCompute, hc, hb]
  rfl

/-! ### The oil conditions (R60) -/

/-- Step 2 as one update: a full ready run decides over a full low run (R60). -/
theorem OilUnit.setConditions_eq (o : OilUnit) :
    o.setConditions =
      { o with
        ready := decide (o.readyRun = 3 ∨ (o.ready = true ∧ o.lowRun ≠ 2))
        low := decide (o.readyRun ≠ 3 ∧ (o.low = true ∨ o.lowRun = 2)) } := by
  by_cases hready : o.readyRun = 3 <;> by_cases hlow : o.lowRun = 2 <;>
    simp [OilUnit.setConditions, hready, hlow]

/-- The evaluation on a pressure with no sensor fault (R60). -/
theorem State.evaluatedOil_of_pressure {s : State} {p : Int} (hp : s.sense.pressure = some p)
    (hf : s.faults.station.oilpSensor = false) :
    s.evaluatedOil = (s.oil.countRuns s.store.params p).setConditions := by
  simp [State.evaluatedOil, hp, State.oilpFault, hf]

/-- With the sensor's fault latched, or before the first sample, the conditions stay (R60; log entry 4). -/
theorem State.evaluatedOil_of_stopped {s : State}
    (h : s.sense.pressure = none ∨ s.faults.station.oilpSensor = true) : s.evaluatedOil = s.oil := by
  unfold State.evaluatedOil
  split
  · rfl
  · next hp =>
    have hf : s.oilpFault = true := h.resolve_left (by simp [hp])
    exact if_pos hf

/-- The unit evaluates its conditions on a pressure, or leaves itself as it is (R60). -/
theorem State.evaluatedOil_cases (s : State) :
    s.evaluatedOil = s.oil ∨ ∃ p, s.evaluatedOil = (s.oil.countRuns s.store.params p).setConditions := by
  cases hp : s.sense.pressure with
  | none => exact .inl (State.evaluatedOil_of_stopped (.inl hp))
  | some p =>
    cases hf : s.faults.station.oilpSensor with
    | true => exact .inl (State.evaluatedOil_of_stopped (.inr hf))
    | false => exact .inr ⟨p, State.evaluatedOil_of_pressure hp hf⟩

theorem State.evaluateOil_of_stopped {s : State}
    (h : s.sense.pressure = none ∨ s.faults.station.oilpSensor = true) : s.evaluateOil = s := by
  rw [State.evaluateOil, State.evaluatedOil_of_stopped h]
  rfl

/-- OIL_READY and OIL_LOW are the evaluation of a cycle reference (log entry 7). -/
theorem exec_oilReady_of_full {s : State} (hs : s.supplyLow = false) (hc : s.decoder.crank = .cycleSync)
    (hp : s.sense.pressure.isSome = true) (hf : s.faults.station.oilpSensor = false)
    (hr : s.evaluatedOil.readyRun = 3) : exec .oilReady s = .next s.oilConditions :=
  (act_of_live hs _).trans (congrArg _ (if_pos ⟨hc, hp, hf, hr⟩))

theorem exec_oilLow_of_rise {s : State} (hs : s.supplyLow = false) (hc : s.decoder.crank = .cycleSync)
    (hold : s.oil.low = false) (hnew : s.evaluatedOil.low = true) : exec .oilLow s = .next s.oilConditions :=
  (act_of_live hs _).trans (congrArg _ (if_pos ⟨hc, hold, hnew⟩))

theorem State.oilLowRises_iff (s : State) :
    s.oilLowRises = true ↔ s.oil.low = false ∧ s.evaluatedOil.low = true := by
  simp [State.oilLowRises]

/-- PEER_ENTRY_EXPIRY is the budget computation that passes the age of 16 (log entry 7). -/
theorem exec_peerEntryExpiry_of_old {s : State} {addr : Address} (hs : s.supplyLow = false)
    (hc : s.decoder.crank = .cycleSync) (he : ∃ e ∈ s.oil.peers, e.address = addr ∧ 16 ≤ e.age) :
    exec (.peerEntryExpiry addr) s = .next s.budgetCompute :=
  (act_of_live hs _).trans (congrArg _ (if_pos ⟨hc, by simpa using he⟩))

/-- Settles O18: the evaluation as one update of the unit, and by whether it makes oil-low rise. -/
theorem oilConditionsChange : Obligations.OilConditionsChange := by
  intro s
  refine ⟨fun p hp hf => ?_, fun hstopped => ?_, fun addr hs hc he => exec_peerEntryExpiry_of_old hs hc he⟩
  · intro readyRun lowRun isReady isLow evaluated
    have hoil : s.evaluatedOil =
        { s.oil with
          readyRun := readyRun, lowRun := lowRun, ready := decide isReady, low := decide isLow } := by
      rw [State.evaluatedOil_of_pressure hp hf, OilUnit.setConditions_eq]
      rfl
    have hevaluated : s.evaluateOil = evaluated := by rw [State.evaluateOil, hoil]; rfl
    have hrises : s.oilLowRises = true ↔ s.oil.low = false ∧ isLow := by
      rw [State.oilLowRises_iff, hoil, decide_eq_true_iff]
    refine ⟨fun hold hnew => ?_, fun hstays => ?_, fun hs hc => ⟨fun hr => ?_, fun hold hl hr => ?_⟩⟩
    · rw [State.oilCycleReference, hevaluated, if_pos (hrises.2 ⟨hold, hnew⟩)]
    · have hno : ¬s.oilLowRises = true := fun h => by
        obtain ⟨hold, hnew⟩ := hrises.1 h
        rcases hstays with hlow | hlow
        · rw [hold] at hlow; cases hlow
        · exact hlow hnew
      rw [State.oilCycleReference, hevaluated, if_neg hno]
    · have hready : decide isReady = true := decide_eq_true (.inl hr)
      have hlow : ¬isLow := fun ⟨hnot, _⟩ => hnot hr
      have hno : ¬s.oilLowRises = true := fun h => hlow (hrises.1 h).2
      rw [exec_oilReady_of_full hs hc (by rw [hp]; rfl) hf (by rw [hoil]; exact hr), State.oilConditions, if_neg hno,
        hevaluated]
      simp only [evaluated, hready, decide_eq_false hlow, hr]
    · have hnew : isLow := ⟨hr, .inr hl⟩
      have hready : ¬isReady := fun h => h.elim hr fun ⟨_, hnot⟩ => hnot hl
      rw [exec_oilLow_of_rise hs hc hold (by rw [hoil]; exact decide_eq_true hnew), State.oilConditions,
        if_pos (hrises.2 ⟨hold, hnew⟩), hevaluated]
      simp only [evaluated, decide_eq_false hready, decide_eq_true hnew, hl]
  · have hno : ¬s.oilLowRises = true := fun h => by
      obtain ⟨hold, hnew⟩ := s.oilLowRises_iff.1 h
      rw [State.evaluatedOil_of_stopped hstopped, hold] at hnew
      cases hnew
    rw [State.oilCycleReference, State.evaluateOil_of_stopped hstopped, if_neg hno]

/-! ### STATUS (R67) -/

/-- Settles O20: the frame's delivery to the unit, and the members of the table it writes. -/
theorem statusFrameTaken : Obligations.StatusFrameTaken := by
  intro h w0 w1 w2 w3 w4 w5 w6 s hears hsource haccepted hpeers
  obtain ⟨hsupply, hfree, hidle⟩ := hears
  obtain ⟨hrising, _⟩ := hpeers
  have hhears := (Link.hears_iff s.link).2 ⟨hfree, hidle⟩
  have hexec : exec (.status h w0 w1 w2 w3 w4 w5 w6) s =
      .next (s.receive { cls := 3, header := h, payload := [w0, w1, w2, w3, w4, w5, w6] } s.straps) :=
    act_of_live hsupply _
  refine ⟨writePeer h.source (readClaim w5) s.oil.peers, ?_, mem_writePeer hrising h.source (readClaim w5)⟩
  rw [hexec, State.receive_of_accepted hhears hsource (by simpa [accepted] using haccepted), State.deliver_status]
  rfl

end Sys2Proof.Machine
end

section
/-! PROOF. The peer table and the oil budget unit's items under every step (O55): the ranges of the unit's items by themselves,
and that each block's operations keep them with the table. -/

namespace Sys2Proof.Machine

/-! ### The unit's items by themselves (R58) -/

/-- The ranges of the unit's items but the table (R58), with the step in force within the slew limit, and 0 with a budget of 0
(R68). -/
structure OilUnit.InRange (o : OilUnit) (slewMax : Nat) : Prop where
  readyRun : o.readyRun ≤ 3
  lowRun : o.lowRun ≤ 2
  ownClaim : o.ownClaim ≤ 30
  demand : o.demand ≤ 240
  budget : o.budget ≤ 60
  step : o.step ≤ slewMax
  step_zero : o.budget = 0 → o.step = 0
  exclusive : ¬(o.ready = true ∧ o.low = true)

theorem OilUnit.atReset_inRange (slewMax : Nat) : OilUnit.atReset.InRange slewMax := by
  constructor <;> simp [OilUnit.atReset]

section UnitOperations

variable {o : OilUnit} {slewMax : Nat} (h : o.InRange slewMax)
include h

/-- The runs saturate, and no evaluation leaves both conditions set (R60). -/
theorem OilUnit.InRange.evaluate (p : Params) (pressure : Int) :
    (o.countRuns p pressure).setConditions.InRange slewMax := by
  rw [OilUnit.setConditions_eq]
  exact
    { h with
      readyRun := by
        simp only [OilUnit.countRuns]
        split
        · exact bump_le 3 _
        · exact Nat.zero_le _
      lowRun := by
        simp only [OilUnit.countRuns]
        split
        · exact bump_le 2 _
        · exact Nat.zero_le _
      exclusive := by
        rintro ⟨hready, hlow⟩
        obtain ⟨hnot, hlow⟩ := of_decide_eq_true hlow
        rcases of_decide_eq_true hready with hfull | ⟨hready, hrun⟩
        · exact hnot hfull
        · exact h.exclusive ⟨hready, hlow.resolve_right hrun⟩ }

theorem OilUnit.InRange.sensorFault : o.sensorFault.InRange slewMax :=
  { h with
    readyRun := Nat.zero_le _
    lowRun := Nat.zero_le _
    budget := Nat.zero_le _
    step := Nat.zero_le _
    step_zero := fun _ => rfl
    exclusive := fun hboth => by cases hboth.1 }

theorem OilUnit.InRange.syncLost : o.syncLost.InRange slewMax :=
  { h with ownClaim := Nat.zero_le _, demand := Nat.zero_le _ }

/-- A unit whose step is 0 lies in range under every slew limit. -/
theorem OilUnit.InRange.reslew (hstep : o.step = 0) (slewMax' : Nat) : o.InRange slewMax' :=
  { h with step := hstep ▸ Nat.zero_le _ }

end UnitOperations

/-! ### A store of the slew limit (R168, R169) -/

theorem Params.slewMax_set (p : Params) (id v : Nat) : (p.set id v).slewMax = if id = 5 then v else p.slewMax := by
  unfold Params.set
  split <;> simp_all

/-- A store limits the slew limit to its range, from 1 on (R168, R169). -/
theorem Params.slewMax_stored {p : Params} (h : 1 ≤ p.slewMax) {id lo hi : Nat} (hrange : paramRange id = some (lo, hi))
    (v : Nat) : 1 ≤ (p.set id (limitNat lo hi v)).slewMax := by
  rw [Params.slewMax_set]
  split
  · next hid =>
    subst hid
    cases hrange
    obtain ⟨hlo, _⟩ := limitNat_bounds (lo := 1) (hi := 100) (by decide) v
    exact hlo
  · exact h

/-! ### The unit in a state -/

/-- The peer table by the own address, the unit's items by the slew limit in force, and that limit at 1 or more (R168). -/
structure State.OilKept (s : State) : Prop where
  peers : PeersSound s.straps.address s.oil.peers
  range : s.oil.InRange s.store.params.slewMax
  slew : 1 ≤ s.store.params.slewMax

theorem oilKept_iff {s : State} (hslew : 1 ≤ s.store.params.slewMax) :
    Safety.PeerTableSound s ∧ Safety.OilSound s ↔ s.OilKept :=
  ⟨fun ⟨⟨rising, entry⟩, readyRun, lowRun, own, demand, budget, step, stepZero, exclusive⟩ =>
      ⟨⟨rising, entry⟩, ⟨readyRun, lowRun, own, demand, budget, step, stepZero, exclusive⟩, hslew⟩,
    fun ⟨⟨rising, entry⟩, ⟨readyRun, lowRun, own, demand, budget, step, stepZero, exclusive⟩, _⟩ =>
      ⟨⟨rising, entry⟩, readyRun, lowRun, own, demand, budget, step, stepZero, exclusive⟩⟩

theorem State.oilKept_of_reset {s : State} (ho : s.oil = .atReset) (hp : s.store.params = .default) : s.OilKept where
  peers := by rw [ho]; exact .nil _
  range := by rw [ho]; exact OilUnit.atReset_inRange _
  slew := by rw [hp]; decide

namespace State.OilKept

variable {s : State} (h : s.OilKept)
include h

/-- An operation that leaves the unit, the parameters and the own address. -/
theorem frame {t : State} (ho : t.oil = s.oil := by simp) (hp : t.store.params = s.store.params := by simp)
    (hs : t.straps = s.straps := by simp) : t.OilKept where
  peers := by rw [ho, hs]; exact h.peers
  range := by rw [ho, hp]; exact h.range
  slew := by rw [hp]; exact h.slew

/-- An operation of the unit itself. -/
theorem modOil {f : OilUnit → OilUnit} (hpeers : PeersSound s.straps.address (f s.oil).peers)
    (hrange : (f s.oil).InRange s.store.params.slewMax) : (s.modOil f).OilKept := ⟨hpeers, hrange, h.slew⟩

omit h in
theorem ite {p : Prop} [Decidable p] {u v : State} (hu : u.OilKept) (hv : v.OilKept) :
    (if p then u else v).OilKept := by
  split
  · exact hu
  · exact hv

theorem returnRunning : s.returnRunning.OilKept := h.frame

/-- Of the station's faults the unit responds to its sensor's (R62). -/
theorem latchStation (k : StationFault) : (s.latchStation k).OilKept := by
  have hlatched : (((s.modFaults fun f => { f with station := f.station.add k }).offer .faultStation
      (s.modFaults fun f => { f with station := f.station.add k }).stationFaultFrame).startPulse).OilKept := h.frame
  refine ite h (State.OilKept.returnRunning ?_)
  cases k with
  | oilpSensor => exact hlatched.modOil hlatched.peers hlatched.range.sensorFault
  | addressClash => exact hlatched
  | crankUnstable => exact hlatched

/-! ### The cycle reference (R60, R68) -/

theorem evaluateOil : s.evaluateOil.OilKept := by
  rw [State.evaluateOil]
  rcases s.evaluatedOil_cases with hsame | ⟨p, hevaluated⟩
  · rw [hsame]
    exact h.modOil h.peers h.range
  · rw [hevaluated]
    refine h.modOil ?_ (h.range.evaluate _ p)
    rw [OilUnit.setConditions_eq]
    exact h.peers

/-- The total demand is at most that of this part and seven peers (R66, R68). -/
theorem budgetCompute : s.budgetCompute.OilKept := by
  have hown := s.ownClaim_le
  have hfresh := h.peers.age.freshClaims_le
  rw [State.budgetCompute]
  exact h.modOil h.peers.age
    { h.range with
      ownClaim := hown
      demand := by simp only; omega
      budget := s.budgetNow_le
      step := stepOf_le h.slew _ _
      step_zero := fun hzero => by
        simp only at hzero ⊢
        rw [hzero, stepOf_zero] }

theorem oilConditions : s.oilConditions.OilKept := ite h.evaluateOil.returnRunning h.evaluateOil

theorem oilCycleReference : s.oilCycleReference.OilKept :=
  have hformed := h.evaluateOil.budgetCompute
  ite hformed.returnRunning hformed

theorem takeCycleReference (b : CycleBlock) : (s.takeCycleReference b).OilKept := by
  cases b with
  | oil => exact h.oilCycleReference
  | _ => unfold State.takeCycleReference; exact h.frame

theorem cycleReference (order : List CycleBlock) : (s.cycleReference order).OilKept := by
  unfold State.cycleReference
  generalize blockOrder order = blocks
  induction blocks generalizing s with
  | nil => exact h
  | cons b bs ih => exact ih (h.takeCycleReference b)

/-! ### The decoder's events (R69, R70) -/

theorem publishSyncLost : s.publishSyncLost.OilKept :=
  have hmeters : ((((s.modMeter .a Meter.syncLost).modMeter .b Meter.syncLost).modTarget
      TargetUnit.syncReset)).OilKept := h.frame
  have hlost := hmeters.modOil (f := OilUnit.syncLost) hmeters.peers hmeters.range.syncLost
  hlost.frame (by simp [State.publishSyncLost]) (by simp) (by simp)

theorem publishCycleSync : s.publishCycleSync.OilKept :=
  have hgained := h.modOil (f := OilUnit.syncGained) (h.peers.setAges fun _ _ => by decide) { h.range with }
  hgained.frame rfl rfl rfl

theorem countLoss : s.countLoss.OilKept :=
  have hcounted : ∀ f, (s.modDecoder f).OilKept := fun _ => h.frame
  ite ((hcounted _).latchStation .crankUnstable) (hcounted _)

theorem toothError (t : Tick) : (s.toothError t).OilKept :=
  have hlost : (s.modDecoder fun d => d.toothError t).OilKept := h.frame
  hlost.publishSyncLost.countLoss

theorem closeRevolution (t : Tick) (order : List CycleBlock) : (s.closeRevolution t order).OilKept := by
  have hclosed : ∀ f, (s.modDecoder f).publishRevolution.OilKept := fun _ => h.frame
  unfold State.closeRevolution
  split
  · exact hclosed _
  · exact (hclosed _).cycleReference order
  · exact hclosed _

theorem syncedEdge (t : Tick) (order : List CycleBlock) : (s.syncedEdge t order).OilKept := by
  have hcounted : ∀ f, (s.modDecoder f).OilKept := fun _ => h.frame
  simp only [State.syncedEdge]
  split
  · exact ite (ite (hcounted _) (h.toothError t)) (ite (h.closeRevolution t order) (h.toothError t))
  · exact h.toothError t

theorem seekEdge (t : Tick) : (s.seekEdge t).OilKept := by
  have hcounted : ∀ f, (s.modDecoder f).OilKept := fun _ => h.frame
  have hgained : (s.gainRevSync t).OilKept := h.frame (hp := rfl)
  simp only [State.seekEdge]
  split
  · exact hcounted _
  · exact ite hgained (hcounted _)

theorem crankEdge (t : Tick) (order : List CycleBlock) : (s.crankEdge t order).OilKept := by
  refine ite h ?_
  split
  · exact h.frame
  · exact h.seekEdge t
  · exact h.syncedEdge t order
  · exact h.syncedEdge t order

theorem stall : s.stall.OilKept := by
  have hstopped : (s.modDecoder Decoder.stall).OilKept := h.frame
  unfold State.stall
  split
  · exact h
  · exact hstopped
  · exact hstopped.publishSyncLost
  · exact hstopped.publishSyncLost

theorem captureEdge (ch : Channel) (angle : Option Nat) : (s.captureEdge ch angle).OilKept := h.frame

theorem camEdge (ch : Channel) (t : Tick) : (s.camEdge ch t).OilKept := by
  have hmarked : ∀ f, (s.modDecoder f).OilKept := fun _ => h.frame
  have hmoved : ∀ f g, ((s.modDecoder f).modDecoder g).OilKept := fun _ _ => h.frame
  simp only [State.camEdge]
  split
  · exact h
  · exact h
  · exact ite ((hmoved _ _).publishCycleSync.captureEdge ch _) ((hmarked _).captureEdge ch none)
  · exact ite ((hmoved _ _).publishSyncLost.captureEdge ch none).countLoss ((hmarked _).captureEdge ch _)

theorem deliverEdge (pin : AnglePin) (t : Tick) (order : List CycleBlock) : (s.deliverEdge pin t order).OilKept := by
  unfold State.deliverEdge
  split
  · exact h.crankEdge t order
  · exact h.camEdge _ t

/-! ### Samples and frames -/

theorem rangeCheck (code : Code12) : (s.rangeCheck code).OilKept :=
  have hrun : ∀ f, (s.modSense f).OilKept := fun _ => h.frame
  ite (hrun _) (ite ((hrun _).latchStation .oilpSensor) (hrun _))

theorem statusArrival {a : Address} (ha : a ≠ s.straps.address) (word5 : Word16) :
    (s.modOil fun o => o.statusArrival a word5).OilKept :=
  h.modOil (h.peers.write ha (min_le_left _ _)) { h.range with }

/-- CONFIG changes the slew limit with the window open only, when the step in force is 0 (R169, R170). -/
theorem takeConfig (hidle : s.store.windowOpen = true → s.oil.step = 0) (addressed : Bool) (id value : Word16) :
    (s.takeConfig addressed id value).OilKept := by
  unfold State.takeConfig
  split
  · next htaken =>
    have hstep : s.oil.step = 0 := hidle (Bool.and_eq_true_iff.1 htaken).2
    split
    · exact h
    · next lo hi hrange =>
      have hslew := Params.slewMax_stored h.slew hrange value.toNat
      have hstored : (s.modStore fun c => c.storeParam id.toNat (limitNat lo hi value.toNat)).OilKept :=
        ⟨h.peers, h.range.reslew hstep _, hslew⟩
      exact hstored.frame
  · exact h

theorem takeClose (addressed : Bool) : (s.takeClose addressed).OilKept := ite (h.frame rfl rfl rfl) h

theorem takeRestart (addressed : Bool) (straps : Straps) : (s.takeRestart addressed straps).OilKept :=
  ite (State.oilKept_of_reset rfl rfl) h

theorem deliver (hidle : s.store.windowOpen = true → s.oil.step = 0) {f : Frame}
    (hsource : f.header.source ≠ s.straps.address) (straps : Straps) : (s.deliver f straps).OilKept := by
  unfold State.deliver
  split
  · exact h.frame
  · exact h.frame
  · exact h.statusArrival hsource _
  · exact h.frame
  · exact h.takeConfig hidle _ _ _
  · exact h.takeClose _
  · exact h.takeRestart _ straps
  · exact h

/-- Only a frame of another station is delivered (R153), so none writes an entry of the own address. -/
theorem receive (hidle : s.store.windowOpen = true → s.oil.step = 0) (f : Frame) (straps : Straps) :
    (s.receive f straps).OilKept := by
  have hread : (s.atBitRead fun l => l.endFrame.countGood).OilKept := h.frame
  have hsilenced : ((s.atBitRead fun l => l.endFrame.countGood).modLink Link.silenced).OilKept := h.frame
  refine ite ?_ h
  simp only
  split
  · exact hsilenced.latchStation .addressClash
  · next hsource => exact ite (hread.deliver hidle hsource straps) hread

end State.OilKept

/-! ### Commands and steps -/

theorem act_oilKept {s t : State} {f : State → State} (h : s.OilKept) (hact : act s f = .next t)
    (hf : (f s).OilKept) : t.OilKept := by
  obtain rfl : (if s.supplyLow then s else f s) = t := Host.Outcome.next.inj hact
  exact .ite h hf

theorem execPowerOnReset_oilKept {s t : State} {edge : SupplyEdge} {pins : StrapPins} (h : s.OilKept)
    (hexec : execPowerOnReset edge pins s = .next t) : t.OilKept := by
  cases edge with
  | falls => cases hexec; exact State.oilKept_of_reset rfl rfl
  | rises =>
    obtain rfl := Host.Outcome.next.inj hexec
    exact .ite (State.oilKept_of_reset rfl rfl) h

theorem execFilterTimeExpiry_oilKept {s t : State} {pin : AnglePin} {order : List CycleBlock} (h : s.OilKept)
    (hexec : execFilterTimeExpiry pin order s = .next t) : t.OilKept := by
  refine act_oilKept h hexec ?_
  split
  · exact h
  · have hrecognised : ∀ n, ((s.elapse n).recognise pin).OilKept := fun _ => h.frame
    simp only
    split
    · exact hrecognised _
    · exact (hrecognised _).deliverEdge pin _ order

/-- The commands that reach the unit, the slew limit or the own address by their operations, and every other command by what it
leaves. -/
theorem exec_oilKept {c : Instr} {s t : State} (h : s.OilKept) (hidle : s.store.windowOpen = true → s.oil.step = 0)
    (hexec : exec c s = .next t) : t.OilKept := by
  cases c with
  | powerOnReset => exact execPowerOnReset_oilKept h hexec
  | filterTimeExpiry => exact execFilterTimeExpiry_oilKept h hexec
  | parkPinChange => cases hexec; exact h.frame rfl rfl rfl
  | stallTimerExpiry =>
    have helapsed : ∀ n, (s.elapse n).OilKept := fun _ => h.frame
    exact act_oilKept h hexec (.ite (helapsed _).stall h)
  | crankUnstable => exact act_oilKept h hexec (.ite h.countLoss h)
  | oilReady | oilLow => exact act_oilKept h hexec (.ite h.oilConditions h)
  | peerEntryExpiry => exact act_oilKept h hexec (.ite h.budgetCompute h)
  | oilpSample =>
    have hsampled : ∀ f, (s.completeSlot.modSense f).OilKept := fun _ => h.frame
    exact act_oilKept h hexec (.ite ((hsampled _).rangeCheck _) h)
  | oilpSensor => exact act_oilKept h hexec (.ite (h.rangeCheck _) h)
  | target | status | engine | clear | config | close | restart | faultFrameReceived =>
    exact act_oilKept h hexec (h.receive hidle _ _)
  | framePassedOver | addressClash => exact act_oilKept h hexec (.ite (h.receive hidle _ _) h)
  | _ =>
    dsimp only [exec, execFilterCandidateOpen, execGlitch, execLossFreeRunExpiry, execCamLost, execCamNoise,
      execTargetStale, execEngineStateStale, execParkRequestRecognised, execReleaseSuccess, execReleaseTimeout,
      execRetryHoldExpiry, execReturnArrival, execNoReturn, execNullTransfer, execTrackError, execPwmPeriodStart,
      execOnTimeEnd, execOvercurrent, execOpenCoilBlankingExpiry, execOpenCoil, execCurrentSample, execVsupSample,
      execTdieSample, execFrameDiscarded, execLinkErrors, execLinkErrorsCleared, execSendStart, execLostArbitration,
      execBitError, execSlotDrop, execTransmissionComplete, execBusStuck, execBusStuckCleared,
      execStatusTimerExpiry, execFaultPulseExpiry, execStartBit, State.tripDriver, State.discard,
      State.loseArbitration, State.failBit] at hexec
    refine act_oilKept h hexec ?_
    (repeat' split) <;> exact h.frame

theorem step_oilKept {s t : State} (h : s.OilKept) (hidle : s.store.windowOpen = true → s.oil.step = 0)
    (hstep : step s = .next t) : t.OilKept := by
  unfold step at hstep
  split at hstep
  · obtain rfl := Host.Outcome.next.inj hstep
    exact .ite h h.frame
  · next rest _ =>
    have hqueue : State.OilKept { s with pending := rest } := h.frame
    exact exec_oilKept hqueue hidle hstep

/-- Settles O55: every operation keeps the table and the unit in range; CONFIG does because the step is 0 then. -/
theorem oilBudgetKept : Obligations.OilBudgetKept := fun s t hparams hwindow hpeers hoil hstep => by
  obtain ⟨hranges, _⟩ := hparams
  obtain ⟨hslew, _⟩ := hranges 5 1 100 rfl
  have hidle : s.store.windowOpen = true → s.oil.step = 0 := fun hw =>
    have ⟨_, _, hzero⟩ := hwindow hw
    hzero
  have hkept := step_oilKept ((oilKept_iff hslew).1 ⟨hpeers, hoil⟩) hidle hstep
  exact (oilKept_iff hkept.slew).2 hkept

end Sys2Proof.Machine
end

section
/-! PROOF. The latch of a fault kind (O35): the latch of a channel kind and of a station kind as equations between whole
states. -/

namespace Sys2Proof.Machine

/-! ### A kind in a set (R176) -/

theorem ChannelFaults.has_add (f : ChannelFaults) (k j : ChannelFault) :
    (f.add k).has j = if j = k then true else f.has j := by
  cases k <;> cases j <;> rfl

theorem StationFaults.has_add (f : StationFaults) (k j : StationFault) :
    (f.add k).has j = if j = k then true else f.has j := by
  cases k <;> cases j <;> rfl

/-! ### What a latch does beside its set (R92, R155, R178) -/

section LatchParts

variable (s : State)

/-- Entry to FAULT from any state: the command and the duty become 0, a channel that leaves PARKED has its park-watch flag clear,
and one that leaves TRACKING has its effective target at 0 (R31, R49, R75, R92). -/
theorem State.setChannelState_fault (ch : Channel) :
    s.setChannelState ch .fault =
      { s with
        sequencers := s.sequencers.set ch { s.sequencers.get ch with state := .fault }
        controllers := s.controllers.set ch { s.controllers.get ch with command := 0 }
        drivers := s.drivers.set ch { s.drivers.get ch with duty := 0, saturated := false, output := false }
        meters :=
          if s.channelState ch = .parked then s.meters.set ch { s.meters.get ch with parkWatch := false }
          else s.meters
        target :=
          { s.target with
            effective :=
              if s.channelState ch = .tracking then s.target.effective.set ch 0 else s.target.effective } } := by
  cases hc : s.channelState ch <;>
    simp [State.setChannelState, hc, State.setCommand_zero, State.modSequencer, State.modMeter, State.modTarget]

/-- An offer replaces the slot's content, but for the transmit silence (R153, R155). -/
theorem State.offer_eq (k : SlotName) (f : Frame) :
    s.offer k f =
      { s with
        link :=
          if s.link.silence = true then s.link
          else
            s.link.setSlot k
              ⟨some f, false, if (s.link.slot k).content = none then 0 else (s.link.slot k).attempts⟩ } := by
  cases hs : s.link.silence <;> simp [State.offer, State.modLink, Link.modSlot, Slot.queue_eq, hs]

theorem State.startPulse_eq :
    s.startPulse =
      { s with
        timers := { s.timers with pulse := if s.straps.faultLine = .pulse then some 0 else s.timers.pulse } } := by
  cases hp : s.straps.faultLine <;> simp [State.startPulse, State.modTimers, hp]

end LatchParts

/-! ### A channel kind (R92, R176) -/

/-- The channel in FAULT with the new kind in its set, before the latch is shown on the link and on FAULT_N. -/
def State.faulted (s : State) (ch : Channel) (k : ChannelFault) : State :=
  (s.modFaults fun f => { f with channel := f.channel.set ch ((f.channel.get ch).add k) }).setChannelState ch .fault

section ChannelLatch

variable {s : State} {ch : Channel} {k : ChannelFault} (hn : (s.faults.channel.get ch).has k = false)
include hn

theorem State.latchChannel_of_new :
    s.latchChannel ch k =
      ((s.faulted ch k).offer (faultSlot ch) ((s.faulted ch k).channelFaultFrame ch)).startPulse := by
  simp only [State.latchChannel, hn, Bool.false_eq_true, if_false]
  rfl

/-- The frame offered is that of the state after the latch (R155, R166). -/
theorem State.faulted_channelFaultFrame :
    (s.faulted ch k).channelFaultFrame ch = (s.latchChannel ch k).channelFaultFrame ch := by
  rw [State.latchChannel_of_new hn]
  simp [State.channelFaultFrame, State.ownFrame, State.channelState]

theorem State.latchChannel_eq :
    s.latchChannel ch k =
      { s with
        faults := (s.latchChannel ch k).faults
        sequencers := s.sequencers.set ch { s.sequencers.get ch with state := .fault }
        controllers := s.controllers.set ch { s.controllers.get ch with command := 0 }
        drivers := s.drivers.set ch { s.drivers.get ch with duty := 0, saturated := false, output := false }
        meters :=
          if s.channelState ch = .parked then s.meters.set ch { s.meters.get ch with parkWatch := false }
          else s.meters
        target :=
          { s.target with
            effective :=
              if s.channelState ch = .tracking then s.target.effective.set ch 0 else s.target.effective }
        link :=
          if s.link.silence = true then s.link
          else
            s.link.setSlot (faultSlot ch)
              ⟨some ((s.latchChannel ch k).channelFaultFrame ch), false,
                if (s.link.slot (faultSlot ch)).content = none then 0 else (s.link.slot (faultSlot ch)).attempts⟩
        timers := { s.timers with pulse := if s.straps.faultLine = .pulse then some 0 else s.timers.pulse } } := by
  rw [← State.faulted_channelFaultFrame hn]
  conv_lhs => rw [State.latchChannel_of_new hn, State.startPulse_eq, State.offer_eq]
  have hfaults : (s.latchChannel ch k).faults = (s.faulted ch k).faults := by
    rw [State.latchChannel_of_new hn]; simp
  rw [hfaults]
  simp only [State.faulted, State.setChannelState_fault]
  rfl

end ChannelLatch

/-! ### A station kind (R62, R77, R176) -/

/-- The oil budget unit's part in the latch of a station kind: it responds to its sensor's (R62). -/
def OilUnit.afterLatch (o : OilUnit) (k : StationFault) : OilUnit :=
  if k = .oilpSensor then o.sensorFault else o

/-- The frame offered is that of the state after the latch: the exits do not show in it (R155, R166). -/
theorem State.latchStation_stationFaultFrame {s : State} {k : StationFault} (hn : s.faults.station.has k = false) :
    (s.latchStation k).stationFaultFrame =
      (s.modFaults fun f => { f with station := f.station.add k }).stationFaultFrame := by
  simp [State.stationFaultFrame, State.ownFrame, State.latchStation_faults, hn]

theorem State.latchStation_of_new {s : State} {k : StationFault} (hn : s.faults.station.has k = false) :
    s.latchStation k =
      State.returnRunning
        { s with
          faults := { s.faults with station := s.faults.station.add k }
          link :=
            if s.link.silence = true then s.link
            else
              s.link.setSlot .faultStation
                ⟨some (s.latchStation k).stationFaultFrame, false,
                  if s.link.faultStation.content = none then 0 else s.link.faultStation.attempts⟩
          timers := { s.timers with pulse := if s.straps.faultLine = .pulse then some 0 else s.timers.pulse }
          oil := s.oil.afterLatch k } := by
  rw [State.latchStation_stationFaultFrame hn]
  simp only [State.latchStation, hn, Bool.false_eq_true, if_false, State.offer_eq, State.startPulse_eq]
  cases k <;> rfl

/-- Settles O35: the latches as equations between whole states, and what a set holds after a kind is added. -/
theorem faultLatch : Obligations.FaultLatch := by
  intro s offered timers
  constructor
  · intro ch k u slot
    refine ⟨State.latchChannel_of_has, fun hn => ?_⟩
    have hfaults : u.faults =
        { s.faults with channel := s.faults.channel.set ch ((s.faults.channel.get ch).add k) } := by
      rw [State.latchChannel_faults, hn]; rfl
    have hset : u.faults.channel.get ch = (s.faults.channel.get ch).add k := by
      rw [hfaults]; exact Pair.get_set_same _ _ _
    refine ⟨?_, fun j hj => ?_, ?_, ?_, ?_⟩
    · rw [hset, ChannelFaults.has_add, if_pos rfl]
    · rw [hset, ChannelFaults.has_add, if_neg hj]
    · rw [hfaults]; exact Pair.get_set_other _ _ _
    · rw [hfaults]
    · have hslot : faultSlot ch = slot := by cases ch <;> rfl
      rw [← hslot]
      exact State.latchChannel_eq hn
  · intro k u
    refine ⟨State.latchStation_of_has, fun hn => ?_⟩
    have hu : u = _ := State.latchStation_of_new hn
    refine ⟨s.faults.station.add k, ?_, fun j hj => ?_, fun ch => ?_, hu⟩
    · rw [StationFaults.has_add, if_pos rfl]
    · rw [StationFaults.has_add, if_neg hj]
    · rw [hu]; exact State.returnRunning_none_runs _ ch

end Sys2Proof.Machine
end

section
/-! PROOF. The driver block's evaluations as equations between whole states: a new command, both duties computed anew, the derate
with the commands it limits (R106, R128), and the two cuts (R127, R129). -/

namespace Sys2Proof.Machine

/-! ### Commands and duties (R104, R120, R126) -/

/-- A duty computed anew twice over is computed anew once. -/
@[simp] theorem Driver.refresh_refresh (duty : Nat → Bool → Nat × Bool) (d : Driver) :
    (d.refresh duty).refresh duty = d.refresh duty := by
  simp [Driver.refresh]

section Duties

variable (s : State)

/-- The duty that the station's cuts and supply give a channel's driver for a command. -/
def State.dutyFor (command : Nat) : Nat → Bool → Nat × Bool := dutyUnder s.conditions s.sense.supply command

/-- A channel's blanking after a command that follows the one in force (R126). -/
def State.blankingFor (ch : Channel) (i : Nat) : Option Nat :=
  if s.command ch < 200 ∧ 200 ≤ i then some 0 else s.timers.blanking.get ch

theorem State.setCommand_eq (ch : Channel) (i : Nat) :
    s.setCommand ch i =
      { s with
        controllers := s.controllers.set ch { s.controllers.get ch with command := i }
        timers := { s.timers with blanking := s.timers.blanking.set ch (s.blankingFor ch i) }
        drivers := s.drivers.set ch ((s.drivers.get ch).refresh (s.dutyFor i)) } := by
  simp only [State.setCommand, State.computeDuty_eq, State.blankingFor]
  split <;> simp [State.startBlanking, State.modTimers, State.modController, State.modDriver, State.command, State.dutyFor]

theorem State.computeDuties_eq :
    s.computeDuties =
      { s with
        drivers :=
          ⟨s.drivers.a.refresh (s.dutyFor (s.command .a)), s.drivers.b.refresh (s.dutyFor (s.command .b))⟩ } := rfl

end Duties

/-! ### The derate (R106, R128) -/

section Derate

variable (s : State) (ch : Channel)

/-- A channel's command under the limit in force, at an event that changes it. -/
def State.limitedCommand : Nat :=
  match s.channelState ch with
  | .releasing => s.releaseCommand
  | .tracking => if s.conditions.derate then min (s.command ch) s.imaxEff else s.command ch
  | .parked => s.command ch
  | .returning => s.command ch
  | .fault => s.command ch

/-- The driver at that event: a new command has its duty computed anew, a command that stands does not. -/
def State.driverLimited : Driver :=
  if s.channelState ch = .releasing ∨ s.channelState ch = .tracking ∧ s.conditions.derate = true then
    (s.drivers.get ch).refresh (s.dutyFor (s.limitedCommand ch))
  else s.drivers.get ch

theorem State.blankingFor_same : s.blankingFor ch (s.command ch) = s.timers.blanking.get ch := by
  have h : ¬(s.command ch < 200 ∧ 200 ≤ s.command ch) := by omega
  simp [State.blankingFor, h]

theorem State.limitCommand_eq :
    s.limitCommand ch =
      { s with
        controllers := s.controllers.set ch { s.controllers.get ch with command := s.limitedCommand ch }
        timers := { s.timers with blanking := s.timers.blanking.set ch (s.blankingFor ch (s.limitedCommand ch)) }
        drivers := s.drivers.set ch (s.driverLimited ch) } := by
  have hsame : s.controllers.set ch { s.controllers.get ch with command := s.command ch } = s.controllers :=
    s.controllers.set_get_same ch
  cases hstate : s.channelState ch with
  | releasing => simp [State.limitCommand, State.limitedCommand, State.driverLimited, hstate, State.setCommand_eq]
  | tracking =>
    cases hderate : s.conditions.derate
    · simp [State.limitCommand, State.limitedCommand, State.driverLimited, hstate, hderate, hsame,
        State.blankingFor_same]
    · simp [State.limitCommand, State.limitedCommand, State.driverLimited, hstate, hderate, State.setCommand_eq]
  | parked => simp [State.limitCommand, State.limitedCommand, State.driverLimited, hstate, hsame, State.blankingFor_same]
  | returning =>
    simp [State.limitCommand, State.limitedCommand, State.driverLimited, hstate, hsame, State.blankingFor_same]
  | fault => simp [State.limitCommand, State.limitedCommand, State.driverLimited, hstate, hsame, State.blankingFor_same]

theorem State.driverLimited_refresh :
    (s.driverLimited ch).refresh (s.dutyFor (s.limitedCommand ch)) =
      (s.drivers.get ch).refresh (s.dutyFor (s.limitedCommand ch)) := by
  unfold State.driverLimited
  split <;> simp

/-- Both channels at the event: each command under the limit, each duty computed anew. -/
theorem State.limitCommands_computeDuties :
    (s.eachChannel State.limitCommand).computeDuties =
      { s with
        controllers :=
          ⟨{ s.controllers.a with command := s.limitedCommand .a },
            { s.controllers.b with command := s.limitedCommand .b }⟩
        timers :=
          { s.timers with
            blanking := ⟨s.blankingFor .a (s.limitedCommand .a), s.blankingFor .b (s.limitedCommand .b)⟩ }
        drivers :=
          ⟨s.drivers.a.refresh (s.dutyFor (s.limitedCommand .a)),
            s.drivers.b.refresh (s.dutyFor (s.limitedCommand .b))⟩ } := by
  have ha := s.driverLimited_refresh .a
  have hb := s.driverLimited_refresh .b
  simp only [Pair.get] at ha hb
  rw [← ha, ← hb, State.eachChannel_def, State.limitCommand_eq s .a, State.limitCommand_eq, State.computeDuties_eq]
  rfl

theorem State.limitCommands_channel :
    (s.eachChannel State.limitCommand).computeDuties.controllers.get ch =
        { s.controllers.get ch with command := s.limitedCommand ch } ∧
      (s.eachChannel State.limitCommand).computeDuties.timers.blanking.get ch =
        s.blankingFor ch (s.limitedCommand ch) ∧
      (s.eachChannel State.limitCommand).computeDuties.drivers.get ch =
        (s.drivers.get ch).refresh (s.dutyFor (s.limitedCommand ch)) := by
  rw [State.limitCommands_computeDuties]
  cases ch <;> exact ⟨rfl, rfl, rfl⟩

/-- The state with its derate evaluated, before anything follows from it. -/
def State.withDerate (θ : Int) : State := s.modConditions fun c => { c with derate := derateAfter s.conditions.derate θ }

theorem State.evaluateDerate_of_same {θ : Int} (h : derateAfter s.conditions.derate θ = s.conditions.derate) :
    s.evaluateDerate θ = s := by
  simp [State.evaluateDerate, h]

theorem State.evaluateDerate_of_change {θ : Int} (h : derateAfter s.conditions.derate θ ≠ s.conditions.derate) :
    s.evaluateDerate θ = ((s.withDerate θ).eachChannel State.limitCommand).computeDuties := by
  simp only [State.evaluateDerate, h, if_false]
  rfl

theorem State.evaluateDerate_conditions (θ : Int) :
    (s.evaluateDerate θ).conditions = { s.conditions with derate := derateAfter s.conditions.derate θ } := by
  by_cases hsame : derateAfter s.conditions.derate θ = s.conditions.derate
  · rw [State.evaluateDerate_of_same s hsame, hsame]
  · rw [State.evaluateDerate_of_change s hsame, State.limitCommands_computeDuties]
    rfl

end Derate

end Sys2Proof.Machine
end

section
/-! PROOF. The timers', the sequencers' and the sense sequencer's items by themselves: their ranges, what the passage of time and
each restart keeps of them, and the ranges with what ties the STATUS timer and the PARK pin's time to the part (R80, R156). -/

namespace Sys2Proof.Machine

/-! ### The ranges of the timers (R119, R133, R145, R149, R178) -/

structure Timers.InRange (t : Timers) : Prop where
  pwm : t.pwm < 2500
  slot : t.slot.ticks < 500
  slotIndex : t.slotIndex ≤ 9
  bitPhase : t.bitPhase < 40
  status : ∀ c, t.status = some c → c.ticks < 500000
  sinceOn : ∀ ch, t.sinceOn.get ch ≤ 80
  pulse : ∀ n, t.pulse = some n → n ≤ 10000
  park : ∀ n, t.park = some n → n ≤ 10000
  blanking : ∀ ch n, t.blanking.get ch = some n → n ≤ 10000

/-- A change of the timers that keeps their ranges, and neither starts nor stops the STATUS timer or the PARK pin's time. -/
structure Timers.Runs (t t' : Timers) : Prop where
  range : t.InRange → t'.InRange
  status : t'.status.isSome = t.status.isSome
  park : t'.park.isSome = t.park.isSome

section Runs

variable (t : Timers)

@[simp] theorem Timers.runs_refl : t.Runs t := ⟨id, rfl, rfl⟩

variable {t} in
theorem Timers.Runs.trans {t' t'' : Timers} (h : t.Runs t') (h' : t'.Runs t'') : t.Runs t'' :=
  ⟨h'.range ∘ h.range, h'.status.trans h.status, h'.park.trans h.park⟩

theorem runTimer_le {last n k : Nat} {t : Option Nat} (h : runTimer last n t = some k) : k ≤ last := by
  obtain ⟨j, _, rfl⟩ := Option.map_eq_some_iff.1 h
  exact min_le_left _ _

/-- Time that passes wraps the free-running timers, and the others stand at their ends (R1, R121, R133, R145). -/
theorem Timers.runs_advance (n : Nat) : t.Runs (t.advance n) where
  range := fun _ =>
    { pwm := Nat.mod_lt _ (by decide)
      slot := Nat.mod_lt _ (by decide)
      slotIndex := Nat.le_of_lt_succ (Nat.mod_lt _ (by decide))
      bitPhase := Nat.mod_lt _ (by decide)
      status := fun c hc => by
        obtain ⟨c', _, rfl⟩ := Option.map_eq_some_iff.1 hc
        exact Nat.mod_lt _ (by decide)
      sinceOn := fun ch => by cases ch <;> exact min_le_left _ _
      pulse := fun _ => runTimer_le
      park := fun _ => runTimer_le
      blanking := fun ch _ hk => by cases ch <;> exact runTimer_le hk }
  status := by simp [Timers.advance]
  park := by simp [Timers.advance, runTimer]

theorem Timers.runs_bitRead : t.Runs { t with bitPhase := 30 } :=
  ⟨fun h => { h with bitPhase := (by decide : 30 < 40) }, rfl, rfl⟩

theorem Timers.runs_takeSlot : t.Runs { t with slot := t.slot.take } :=
  ⟨fun h => { h with slot := h.slot }, rfl, rfl⟩

theorem Timers.runs_takeStatus : t.Runs { t with status := t.status.map Cyclic.take } where
  range := fun h =>
    { h with
      status := fun c hc => by
        obtain ⟨c', hc', rfl⟩ := Option.map_eq_some_iff.1 hc
        exact h.status c' hc' }
  status := by simp
  park := rfl

/-- The pulse timer starts from 0, or stops (R178). -/
theorem Timers.runs_setPulse {p : Option Nat} (hp : ∀ n, p = some n → n = 0) : t.Runs { t with pulse := p } :=
  ⟨fun h => { h with pulse := fun n hn => by rw [hp n hn]; exact Nat.zero_le _ }, rfl, rfl⟩

/-- Each blanking stays, starts from 0 or ends (R126). -/
theorem Timers.runs_setBlanking {b : Pair (Option Nat)}
    (hb : ∀ ch n, b.get ch = some n → n = 0 ∨ t.blanking.get ch = some n) : t.Runs { t with blanking := b } where
  range := fun h =>
    { h with
      blanking := fun ch n hn => by
        rcases hb ch n hn with hzero | hold
        · rw [hzero]; exact Nat.zero_le _
        · exact h.blanking ch n hold }
  status := rfl
  park := rfl

/-- A period start takes the earliest one owed, and the comparator's time from the period's start on (R121, R124). -/
theorem Timers.runs_periodStart (ch : Channel) (owed : Pair Nat) (unbroken : Bool) (k : Nat) :
    t.Runs
      { t with
        periodsOwed := owed
        sinceOn := if unbroken then t.sinceOn else t.sinceOn.set ch (min 80 k) } where
  range := fun h =>
    { h with
      sinceOn := fun c => by
        cases unbroken
        · simp only [Bool.false_eq_true, if_false, Pair.get_set]
          split
          · exact min_le_left _ _
          · exact h.sinceOn c
        · exact h.sinceOn c }
  status := rfl
  park := rfl

end Runs

/-! ### The ranges of the sequencers and of the sense sequencer (R74, R133) -/

structure Sequencer.InRange (q : Sequencer) : Prop where
  attempts : q.attempts ≤ 3
  retryHold : q.retryHold ≤ 2
  releaseCount : q.releaseCount ≤ 8
  successRun : q.successRun ≤ 2
  returnCount : q.returnCount ≤ 60
  returnRun : q.returnRun ≤ 3

structure Sense.InRange (n : Sense) : Prop where
  rangeRun : n.rangeRun ≤ 7
  currents : ∀ ch i, n.currents.get ch = some i → i ≤ 2999
  pressure : ∀ p, n.pressure = some p → 0 ≤ p ∧ p ≤ 1000
  supply : ∀ v, n.supply = some v → 0 ≤ v ∧ v ≤ 19995
  temperature : ∀ t, n.temperature = some t → -50 ≤ t ∧ t ≤ 199

/-! ### The scaled samples (R136) -/

section Scaled

variable (code : Code12)

theorem scaleCurrent_le : scaleCurrent code ≤ 2999 := by
  have := code.isLt
  unfold scaleCurrent
  omega

theorem scaleSupply_bounds : 0 ≤ scaleSupply code ∧ scaleSupply code ≤ 19995 := by
  have := code.isLt
  unfold scaleSupply divTrunc
  rw [Int.tdiv_eq_ediv_of_nonneg (by omega)]
  omega

theorem scaleTemperature_bounds : -50 ≤ scaleTemperature code ∧ scaleTemperature code ≤ 199 := by
  have := code.isLt
  unfold scaleTemperature divTrunc
  rw [Int.tdiv_eq_ediv_of_nonneg (by omega)]
  omega

end Scaled

/-! ### The samples stored (R137 to R141) -/

section Stored

variable {n : Sense} (h : n.InRange) (code : Code12)
include h

theorem Sense.InRange.storeCurrent (ch : Channel) :
    Sense.InRange { n with currents := n.currents.set ch (some (scaleCurrent code)) } :=
  { h with
    currents := fun c i hi => by
      simp only [Pair.get_set] at hi
      split at hi
      · cases hi; exact scaleCurrent_le code
      · exact h.currents c i hi }

theorem Sense.InRange.storePressure :
    Sense.InRange { n with pressure := some (filtered n.pressure (scalePressure code)) } :=
  { h with
    pressure := fun p hp => by
      cases hp
      exact filtered_bounds (limit_bounds (by decide) _) h.pressure }

theorem Sense.InRange.storeSupply :
    Sense.InRange { n with supply := some (filtered n.supply (scaleSupply code)) } :=
  { h with
    supply := fun v hv => by
      cases hv
      exact filtered_bounds (scaleSupply_bounds code) h.supply }

theorem Sense.InRange.storeTemperature :
    Sense.InRange { n with temperature := some (filtered n.temperature (scaleTemperature code)) } :=
  { h with
    temperature := fun t ht => by
      cases ht
      exact filtered_bounds (scaleTemperature_bounds code) h.temperature }

end Stored

/-! ### The items in a state -/

/-- The three blocks' items in range, the STATUS timer running exactly outside CYCLE_SYNC (R156), and the PARK pin's time exactly
while the pin holds another level than the recognised one (R80). -/
structure State.ClocksSound (s : State) : Prop where
  timers : s.timers.InRange
  status : s.timers.status.isSome = decide (s.decoder.crank ≠ .cycleSync)
  park : s.timers.park.isSome = decide (s.engine.parkPin ≠ recognisedLevel s.engine.parkRequest)
  age : s.engine.age ≤ 255
  sequencer : ∀ ch, (s.sequencers.get ch).InRange
  sense : s.sense.InRange

theorem clocksSound_iff (s : State) :
    Safety.TimersSound s ∧ Safety.SequencerSound s ∧ Safety.SenseSound s ↔ s.ClocksSound := by
  constructor
  · rintro ⟨⟨pwm, slot, slotIndex, bitPhase, status, sinceOn, pulse, park, blanking, statusRuns, parkRuns⟩,
      ⟨age, sequencers⟩, rangeRun, currents, pressure, supply, temperature⟩
    refine ⟨⟨pwm, slot, slotIndex, bitPhase, status, sinceOn, pulse, park, blanking⟩, statusRuns, parkRuns, age,
      fun ch => ?_, ⟨rangeRun, currents, pressure, supply, temperature⟩⟩
    obtain ⟨attempts, retryHold, releaseCount, successRun, returnCount, returnRun⟩ := sequencers ch
    exact ⟨attempts, retryHold, releaseCount, successRun, returnCount, returnRun⟩
  · rintro ⟨⟨pwm, slot, slotIndex, bitPhase, status, sinceOn, pulse, park, blanking⟩, statusRuns, parkRuns, age,
      sequencers, rangeRun, currents, pressure, supply, temperature⟩
    refine ⟨⟨pwm, slot, slotIndex, bitPhase, status, sinceOn, pulse, park, blanking, statusRuns, parkRuns⟩,
      ⟨age, fun ch => ?_⟩, rangeRun, currents, pressure, supply, temperature⟩
    obtain ⟨attempts, retryHold, releaseCount, successRun, returnCount, returnRun⟩ := sequencers ch
    exact ⟨attempts, retryHold, releaseCount, successRun, returnCount, returnRun⟩

/-- An operation that keeps the ranges, and leaves the crank state and the engine store. -/
theorem State.ClocksSound.congr {s t : State} (h : s.ClocksSound) (htimers : s.timers.Runs t.timers := by simp)
    (hsequencers : ∀ ch, (s.sequencers.get ch).InRange → (t.sequencers.get ch).InRange := by simp)
    (hsense : s.sense.InRange → t.sense.InRange := by simp)
    (hcrank : t.decoder.crank = s.decoder.crank := by simp) (hengine : t.engine = s.engine := by simp) :
    t.ClocksSound where
  timers := htimers.range h.timers
  status := by rw [htimers.status, hcrank]; exact h.status
  park := by rw [htimers.park, hengine]; exact h.park
  age := by rw [hengine]; exact h.age
  sequencer := fun ch => hsequencers ch (h.sequencer ch)
  sense := hsense h.sense

/-- Every reset leaves the items as the state tables have them; the PARK pin's time starts anew where the pin is low (R80,
R174). -/
theorem State.clocksSound_resetWith (s : State) (straps : Straps) : (s.resetWith straps).ClocksSound := by
  obtain ⟨timers, _, _, age, sequencer, sense⟩ :=
    (clocksSound_iff .reset).1 ⟨timersSound_reset, sequencerSound_reset, senseSound_reset⟩
  refine ⟨{ timers with park := fun n hn => ?_ }, rfl, ?_, age, sequencer, sense⟩
  · simp only [State.resetWith] at hn
    split at hn <;> cases hn
    exact Nat.zero_le _
  · cases hp : s.engine.parkPin <;> simp [State.resetWith, hp, EngineStore.atReset, recognisedLevel]

end Sys2Proof.Machine
end

section
/-! PROOF. What one step can do to the channels and to the items of the three blocks above: a relation of few moves, and that
every operation of every block is made of them. Each rule that every step keeps (O49, O50, O51, O58) is then a rule that every
move keeps. -/

namespace Sys2Proof.Machine

/-! ### The moves -/

/-- The channels keep their states, their commands and their fault sets, and the items of the timers, the sequencers and the sense
sequencer stay sound if they were. -/
structure State.Steady (s t : State) : Prop where
  state : ∀ ch, t.channelState ch = s.channelState ch
  command : ∀ ch, t.command ch = s.command ch
  faults : t.faults.channel = s.faults.channel
  clocks : s.ClocksSound → t.ClocksSound

inductive State.Move (s : State) : State → Prop
  /-- The channels stay, and none loses a run condition (R76). -/
  | steady {t : State} (h : s.Steady t) (himax : t.imaxEff = s.imaxEff)
      (hrun : ∀ ch, s.runConditions ch = true → t.runConditions ch = true) : Move s t
  /-- Any run condition may have become false, and the running channels leave (R77). -/
  | exits {u : State} (h : s.Steady u) (himax : u.imaxEff = s.imaxEff) : Move s u.returnRunning
  /-- The parameters change, while the configuration window is open (R169). -/
  | configured {t : State} (hwindow : s.store.windowOpen = true) (h : s.Steady t) : Move s t
  /-- A channel changes its state, but for the entry to FAULT and the exit from it; it starts to run only with every run condition
  (R76, R81). -/
  | changes (ch : Channel) (new : ChannelState) (hold : s.channelState ch ≠ .fault) (hnew : new ≠ .fault)
      (hrun : new.running = true → (s.channelState ch).running = true ∨ s.runConditions ch = true) :
      Move s (s.setChannelState ch new)
  /-- A running channel takes a command within Imax_eff (R99). -/
  | commands (ch : Channel) (i : Nat) (hrun : (s.channelState ch).running = true) (hi : i ≤ s.imaxEff) :
      Move s (s.setCommand ch i)
  /-- The derate is evaluated, and changes Imax_eff (R128). -/
  | derates (θ : Int) : Move s (s.evaluateDerate θ)
  /-- A channel fault latches (R92). -/
  | latches (ch : Channel) (k : ChannelFault) : Move s (s.latchChannel ch k)
  /-- A CLEAR is taken (R94). -/
  | clears (w : Word16) : Move s (s.takeClear w)
  /-- The crank is out of CYCLE_SYNC, and "sync lost" is published (R91). -/
  | losesSync (f : Decoder → Decoder) (hcrank : (f s.decoder).crank ≠ .cycleSync) :
      Move s (s.modDecoder f).publishSyncLost
  /-- Every item takes its reset value (R174). -/
  | resets (straps : Straps) (low : Bool) : Move s { s.resetWith straps with supplyLow := low }

/-- A number of moves. -/
def State.Moves : State → State → Prop := Relation.ReflTransGen State.Move

/-- A rule that every move keeps is kept by every number of them. -/
theorem State.Moves.keeps {P : State → Prop} (hP : ∀ s t : State, s.Move t → P s → P t) {s t : State} (h : s.Moves t)
    (hs : P s) : P t := by
  induction h with
  | refl => exact hs
  | tail _ hmove ih => exact hP _ _ hmove ih

/-! ### Steady changes -/

theorem State.steady_refl (s : State) : s.Steady s := ⟨fun _ => rfl, fun _ => rfl, rfl, id⟩

/-- A change of one sequencer's counts, its state kept. -/
theorem State.steady_modSequencer {s : State} {ch : Channel} {f : Sequencer → Sequencer}
    (hstate : (f (s.sequencers.get ch)).state = (s.sequencers.get ch).state)
    (hrange : (s.sequencers.get ch).InRange → (f (s.sequencers.get ch)).InRange) : s.Steady (s.modSequencer ch f) where
  state := fun c => by
    simp only [State.channelState, State.modSequencer, Pair.get_set]
    split
    · next hc => rw [hc, hstate]
    · rfl
  command := fun _ => rfl
  faults := rfl
  clocks := fun h => h.congr (hsequencers := fun c hc => by
    simp only [State.modSequencer, Pair.get_set]
    split
    · next he => exact hrange (he ▸ hc)
    · exact hc)

theorem State.steady_modTimers {s : State} {f : Timers → Timers} (hf : s.timers.Runs (f s.timers)) :
    s.Steady (s.modTimers f) := ⟨fun _ => rfl, fun _ => rfl, rfl, fun h => h.congr hf⟩

theorem State.steady_modSense {s : State} {f : Sense → Sense} (hf : s.sense.InRange → (f s.sense).InRange) :
    s.Steady (s.modSense f) := ⟨fun _ => rfl, fun _ => rfl, rfl, fun h => h.congr (hsense := hf)⟩

/-- Nothing that the rules about the channels and about the three blocks speak of changes. -/
structure State.Agrees (s t : State) : Prop where
  timers : t.timers = s.timers := by simp
  sequencers : t.sequencers = s.sequencers := by simp
  command : ∀ ch, (t.controllers.get ch).command = (s.controllers.get ch).command := by simp
  crank : t.decoder.crank = s.decoder.crank := by simp
  engine : t.engine = s.engine := by simp
  low : t.oil.low = s.oil.low := by simp
  conditions : t.conditions = s.conditions := by simp
  sense : t.sense = s.sense := by simp
  faults : t.faults = s.faults := by simp
  store : t.store = s.store := by simp

section Agrees

variable {s t : State} (h : s.Agrees t)
include h

theorem State.Agrees.steady : s.Steady t where
  state := fun ch => by simp only [State.channelState, h.sequencers]
  command := h.command
  faults := by rw [h.faults]
  clocks := fun hs => hs.congr (by simp [h.timers]) (by simp [h.sequencers]) (by simp [h.sense]) h.crank h.engine

theorem State.Agrees.imaxEff : t.imaxEff = s.imaxEff := by simp only [State.imaxEff, h.conditions, h.store]

theorem State.Agrees.runConditions (ch : Channel) : t.runConditions ch = s.runConditions ch := by
  simp only [State.runConditions, h.crank, h.store, h.engine, h.low, h.conditions, h.faults]

end Agrees

/-! ### Steady changes that touch a run condition or the crank -/

/-- No run condition is lost where none of their items changes for the worse (R76). -/
theorem State.runConditions_of {s t : State} (hcrank : t.decoder.crank = s.decoder.crank := by simp)
    (hwindow : s.store.windowOpen = false → t.store.windowOpen = false := by simp)
    (hpark : s.engine.parkRequest = false → t.engine.parkRequest = false := by simp)
    (hlow : s.oil.low = false → t.oil.low = false := by simp)
    (hengine : s.engine.engine = .running ∧ s.engine.age ≤ 8 → t.engine.engine = .running ∧ t.engine.age ≤ 8 := by simp)
    (hunder : s.conditions.underVoltage = false → t.conditions.underVoltage = false := by simp)
    (hcut : s.conditions.thermalCut = false → t.conditions.thermalCut = false := by simp)
    (hfaults : t.faults = s.faults := by simp) (ch : Channel) (hrun : s.runConditions ch = true) :
    t.runConditions ch = true := by
  obtain ⟨crank, window, park, low, engine, age, under, cut, station, channel⟩ := (s.runConditions_iff ch).1 hrun
  obtain ⟨engine', age'⟩ := hengine ⟨engine, age⟩
  refine (t.runConditions_iff ch).2 ⟨hcrank.trans crank, hwindow window, hpark park, hlow low, engine', age', hunder under,
    hcut cut, ?_, ?_⟩
  · rw [hfaults]; exact station
  · rw [hfaults]; exact channel

theorem State.steady_modOil (s : State) (f : OilUnit → OilUnit) : s.Steady (s.modOil f) :=
  ⟨fun _ => rfl, fun _ => rfl, rfl, fun h => h.congr⟩

/-- The engine state and its age change, the PARK pin and its request stay. -/
theorem State.steady_modEngine {s : State} {f : EngineStore → EngineStore} (hage : (f s.engine).age ≤ 255)
    (hpin : (f s.engine).parkPin = s.engine.parkPin) (hrequest : (f s.engine).parkRequest = s.engine.parkRequest) :
    s.Steady (s.modEngine f) :=
  ⟨fun _ => rfl, fun _ => rfl, rfl, fun h =>
    { h with
      park := by rw [State.modEngine_engine, hpin, hrequest]; exact h.park
      age := hage }⟩

/-- The crank moves outside CYCLE_SYNC, and the STATUS timer runs on (R156). -/
theorem State.steady_modDecoder {s : State} {f : Decoder → Decoder} (hold : s.decoder.crank ≠ .cycleSync)
    (hnew : (f s.decoder).crank ≠ .cycleSync) : s.Steady (s.modDecoder f) :=
  ⟨fun _ => rfl, fun _ => rfl, rfl, fun h => { h with status := by simpa [hold, hnew] using h.status }⟩

/-- The crank comes to CYCLE_SYNC, and the STATUS timer stops (R79, R156). -/
theorem State.steady_publishCycleSync {s : State} {f : Decoder → Decoder} (hnew : (f s.decoder).crank = .cycleSync) :
    s.Steady (s.modDecoder f).publishCycleSync :=
  ⟨fun _ => rfl, fun _ => rfl, rfl, fun h =>
    { h with
      timers := { h.timers with status := fun c hc => by cases hc }
      status := by simp [State.publishCycleSync, hnew]
      park := h.park
      age := le_rfl }⟩

/-- The driver block evaluates a condition other than the derate (R127, R129). -/
theorem State.steady_conditions (s : State) (f : Conditions → Conditions) : s.Steady (s.modConditions f).computeDuties :=
  ⟨fun ch => by simp [State.channelState], fun ch => by simp [State.command], by simp, fun h => h.congr⟩

/-- A station fault in its set, shown on the link and on FAULT_N, before the exits of R77. -/
theorem State.steady_latchStation (s : State) (k : StationFault) {f : OilUnit → OilUnit} :
    s.Steady (((s.modFaults fun f => { f with station := f.station.add k }).offer .faultStation
      (s.modFaults fun f => { f with station := f.station.add k }).stationFaultFrame).startPulse.modOil f) where
  state := fun ch => by simp [State.channelState]
  command := fun ch => by simp [State.command]
  faults := by simp
  clocks := fun hs => hs.congr (htimers := by
    simp only [State.modOil_timers, State.startPulse]
    split
    · simp
    · simpa using Timers.runs_setPulse _ (by simp))

/-! ### The commands that the channels take (R75, R99, R103) -/

/-- The command at entry to TRACKING is limited (R75, R115). -/
theorem State.entryCommand_le (s : State) (ch : Channel) : s.entryCommand ch ≤ s.imaxEff := by
  have := limit_bounds (lo := 0) (hi := s.imaxEff) (by omega) (s.controllers.get ch).learnedNull
  unfold State.entryCommand
  omega

/-- A control update limits its command in either branch (R103). -/
theorem piOutput_le (kp ki learnedNull x e : Int) (imax : Nat) : (piOutput kp ki learnedNull x e imax).2 ≤ imax := by
  have hlimit : ∀ y : Int, (limit 0 imax y).toNat ≤ imax := fun y => by
    have := limit_bounds (lo := 0) (hi := imax) (by omega) y
    omega
  simp only [piOutput]
  split <;> exact hlimit _

theorem Controller.stationaryUpdate_command (c : Controller) (settled : Bool) : (c.stationaryUpdate settled).command = c.command := by
  unfold Controller.stationaryUpdate
  (repeat' split) <;> rfl

/-- A stored parameter changes no command (R110, R123). -/
theorem State.takeConfig_command (s : State) (addressed : Bool) (id value : Word16) (ch : Channel) :
    (s.takeConfig addressed id value).command ch = s.command ch := by
  have hreseed : ∀ (u : State) (id v : Nat), (u.reseed id v).command ch = u.command ch := by
    intro u id v
    unfold State.reseed
    split
    · cases ch <;> rfl
    · split <;> simp [State.command]
  unfold State.takeConfig
  (repeat' split)
  · rfl
  · exact hreseed _ _ _
  · rfl

/-! ### One operation after the moves that come before it -/

namespace State.Moves

variable {r s : State}

theorem ite {p : Prop} [Decidable p] {u v : State} (hu : r.Moves u) (hv : r.Moves v) :
    r.Moves (if p then u else v) := by
  split
  · exact hu
  · exact hv

variable (h : r.Moves s)
include h

theorem move {t : State} (hmove : s.Move t) : r.Moves t := h.tail hmove

/-- An operation that changes nothing the rules speak of. -/
theorem frame {t : State} (hagrees : s.Agrees t := by constructor) : r.Moves t :=
  h.move (.steady hagrees.steady hagrees.imaxEff fun ch hrun => (hagrees.runConditions ch).trans hrun)

theorem modMeter (ch : Channel) (f : Meter → Meter) : r.Moves (s.modMeter ch f) := h.frame {}

theorem modTarget (f : TargetUnit → TargetUnit) : r.Moves (s.modTarget f) := h.frame {}

theorem modDriver (ch : Channel) (f : Driver → Driver) : r.Moves (s.modDriver ch f) := h.frame {}

theorem modLink (f : Link → Link) : r.Moves (s.modLink f) := h.frame {}

theorem modController {ch : Channel} {f : Controller → Controller}
    (hf : (f (s.controllers.get ch)).command = (s.controllers.get ch).command) : r.Moves (s.modController ch f) := by
  refine h.frame { command := fun c => ?_ }
  simp only [State.modController, Pair.get_set]
  split
  · next hc => rw [hc, hf]
  · rfl

theorem modDecoder {f : Decoder → Decoder} (hf : (f s.decoder).crank = s.decoder.crank) : r.Moves (s.modDecoder f) :=
  h.frame { crank := hf }

theorem modSequencer {ch : Channel} {f : Sequencer → Sequencer}
    (hstate : (f (s.sequencers.get ch)).state = (s.sequencers.get ch).state)
    (hrange : (s.sequencers.get ch).InRange → (f (s.sequencers.get ch)).InRange) : r.Moves (s.modSequencer ch f) :=
  h.move (.steady (State.steady_modSequencer hstate hrange) rfl fun _ => id)

theorem modTimers {f : Timers → Timers} (hf : s.timers.Runs (f s.timers)) : r.Moves (s.modTimers f) :=
  h.move (.steady (State.steady_modTimers hf) rfl fun _ => id)

theorem modSense {f : Sense → Sense} (hf : s.sense.InRange → (f s.sense).InRange) : r.Moves (s.modSense f) :=
  h.move (.steady (State.steady_modSense hf) rfl fun _ => id)

/-- Out of CYCLE_SYNC no channel has its run conditions, and none can lose one (R76). -/
theorem unsynced {t : State} (hcrank : s.decoder.crank ≠ .cycleSync) (hsteady : s.Steady t)
    (himax : t.imaxEff = s.imaxEff) : r.Moves t :=
  h.move (.steady hsteady himax fun ch hrun => absurd ((s.runConditions_iff ch).1 hrun).1 hcrank)

theorem elapse (n : Nat) : r.Moves (s.elapse n) := by
  have hpassed := h.modTimers (f := fun t => t.advance n) (s.timers.runs_advance n)
  exact ite (hpassed.modLink _) hpassed

theorem atBitRead (f : Link → Link) : r.Moves (s.atBitRead f) :=
  (h.modLink f).modTimers (s.modLink f).timers.runs_bitRead

theorem passDominant (k : Nat) : r.Moves (s.passDominant k) :=
  (h.modTimers (f := fun t => t.advance (s.ticksToDominant + 40 * (k - 1))) (s.timers.runs_advance _)).modTimers
    (f := fun t => { t with bitPhase := 30 }) (Timers.runs_bitRead _)

theorem completeSlot : r.Moves s.completeSlot :=
  (h.elapse _).modTimers (Timers.runs_takeSlot _)

/-! ### Channel states, exits and latches -/

theorem returnRunning : r.Moves s.returnRunning := h.move (.exits s.steady_refl rfl)

/-- A channel in any state but FAULT stops (R75). -/
theorem stopChannel {ch : Channel} {new : ChannelState} (hold : s.channelState ch ≠ .fault)
    (hnew : new = .parked ∨ new = .returning) : r.Moves (s.setChannelState ch new) := by
  refine h.move (.changes ch new hold ?_ fun hrun => ?_) <;> rcases hnew with rfl | rfl
  · decide
  · decide
  · cases hrun
  · cases hrun

theorem enterReturning {ch : Channel} (hold : s.channelState ch ≠ .fault) : r.Moves (s.enterReturning ch) := by
  have hentered := (h.stopChannel hold (.inr rfl)).modSequencer (ch := ch)
    (f := fun q => { q with returnCount := 0, returnRun := 0 }) rfl
    fun hq => { hq with returnCount := Nat.zero_le _, returnRun := Nat.zero_le _ }
  refine ite hentered (hentered.stopChannel ?_ (.inl rfl))
  simp [State.channelState, State.setChannelState_sequencers]

theorem latchChannel (ch : Channel) (k : ChannelFault) : r.Moves (s.latchChannel ch k) := h.move (.latches ch k)

theorem latchStation (k : StationFault) : r.Moves (s.latchStation k) := by
  refine ite h (h.move ?_)
  cases k with
  | oilpSensor => exact .exits (s.steady_latchStation .oilpSensor) (by simp [State.imaxEff])
  | addressClash => exact .exits (s.steady_latchStation .addressClash (f := id)) (by simp [State.imaxEff])
  | crankUnstable => exact .exits (s.steady_latchStation .crankUnstable (f := id)) (by simp [State.imaxEff])


/-! ### The meters' events -/

theorem revolutionTest (ch : Channel) : r.Moves (s.revolutionTest ch) :=
  ite ((h.modMeter ch _).latchChannel ch .camLost) (h.modMeter ch _)

theorem noiseTest (ch : Channel) : r.Moves (s.noiseTest ch) :=
  ite ((h.modMeter ch _).latchChannel ch .camNoise) (h.modMeter ch _)

theorem parkLearning (ch : Channel) : r.Moves (s.parkLearning ch) :=
  ite (ite (h.modMeter ch _) (h.latchChannel ch .parkOffsetRange)) h

theorem meterCycleReference (ch : Channel) : r.Moves (s.meterCycleReference ch) :=
  (((h.parkLearning ch).modMeter ch _).noiseTest ch).modMeter ch _

/-! ### The channels' events -/

theorem startRelease {ch : Channel} (hstate : s.channelState ch = .parked) (hrun : s.runConditions ch = true) :
    r.Moves (s.startRelease ch) := by
  have hreleasing : r.Moves (s.setChannelState ch .releasing) :=
    h.move (.changes ch .releasing (by simp [hstate]) (by decide) fun _ => .inr hrun)
  have hcounted := hreleasing.modSequencer (ch := ch) (f := fun q => { q with releaseCount := 0, successRun := 0 }) rfl
    fun hq => { hq with releaseCount := Nat.zero_le _, successRun := Nat.zero_le _ }
  refine hcounted.move (.commands ch _ ?_ (min_le_right _ _))
  simp [State.channelState, State.setChannelState_sequencers, ChannelState.running]

theorem enterTracking {ch : Channel} (hstate : s.channelState ch = .releasing) (phase : Int) :
    r.Moves (s.enterTracking ch phase) := by
  have htracking : r.Moves (s.setChannelState ch .tracking) :=
    h.move (.changes ch .tracking (by simp [hstate]) (by decide) fun _ => .inl (by rw [hstate]; rfl))
  have hreloaded := htracking.modSequencer (ch := ch) (f := fun q => { q with attempts := 3, retryHold := 0 }) rfl
    fun hq => { hq with attempts := le_rfl, retryHold := Nat.zero_le _ }
  have hstarted := (hreloaded.modTarget fun t =>
    { t with effective := t.effective.set ch (s.entryTarget ch phase) }).modController (ch := ch)
      (f := Controller.startTracking) rfl
  refine hstarted.move (.commands ch _ ?_ (State.entryCommand_le _ ch))
  simp [State.channelState, State.setChannelState_sequencers, ChannelState.running]

theorem releaseProgress {ch : Channel} (hstate : s.channelState ch = .releasing) (phase : Int) :
    r.Moves (s.releaseProgress ch phase) := by
  have hcounted := h.modSequencer (ch := ch)
    (f := fun q => { q with successRun := if 30 ≤ phase then bump 2 (s.sequencers.get ch).successRun else 0 }) rfl
    fun hq => { hq with successRun := by simp only; split <;> [exact bump_le 2 _; exact Nat.zero_le _] }
  exact ite (hcounted.enterTracking (by simpa [State.channelState] using hstate) phase) hcounted

theorem returnProgress {ch : Channel} (hstate : s.channelState ch = .returning) (phase : Int) :
    r.Moves (s.returnProgress ch phase) := by
  have hcounted := h.modSequencer (ch := ch)
    (f := fun q => { q with returnRun := if nearPark phase then bump 3 (s.sequencers.get ch).returnRun else 0 }) rfl
    fun hq => { hq with returnRun := by simp only; split <;> [exact bump_le 3 _; exact Nat.zero_le _] }
  refine ite (hcounted.stopChannel ?_ (.inl rfl)) hcounted
  have hkept : (s.sequencers.get ch).state = .returning := hstate
  simp [State.channelState, hkept]

theorem trackErrorUpdate (ch : Channel) (e : Int) : r.Moves (s.trackErrorUpdate ch e) :=
  have hcounted : ∀ n : Nat, r.Moves (s.modController ch fun c => { c with trackErrors := n }) :=
    fun _ => h.modController rfl
  ite (ite ((hcounted _).latchChannel ch .trackError) (hcounted _)) (hcounted _)

theorem reachedTest (ch : Channel) (e : Int) : r.Moves (s.reachedTest ch e) :=
  ite ((h.modTarget _).modController rfl) h

theorem controlUpdate {ch : Channel} (hstate : s.channelState ch = .tracking) (phase : Int) :
    r.Moves (s.controlUpdate ch phase) := by
  have hrun : (s.channelState ch).running = true := by rw [hstate]; rfl
  have hcommanded : ∀ x i e, i ≤ s.imaxEff →
      r.Moves (((s.modController ch fun c => { c with integrator := x }).setCommand ch i).modController ch
        fun c => { c with lastError := some e }) := fun x i e hi =>
    have hintegrated := h.modController (ch := ch) (f := fun c => { c with integrator := x }) rfl
    (hintegrated.move (.commands ch i hrun hi)).modController rfl
  exact (((hcommanded _ _ _ (piOutput_le _ _ _ _ _ _)).reachedTest ch _).modController
    (Controller.stationaryUpdate_command _ _)).trackErrorUpdate ch _

theorem trackingEvent {ch : Channel} (hstate : s.channelState ch = .tracking) (phase : Int) :
    r.Moves (s.trackingEvent ch phase) := by
  have hramped : r.Moves (s.ramp ch) := h.frame {}
  have hstate' : (s.ramp ch).channelState ch = .tracking := hstate
  exact ite (hramped.enterReturning (by simp [hstate'])) (hramped.controlUpdate hstate' phase)

theorem phaseMeasured (ch : Channel) (phase : Int) : r.Moves (s.phaseMeasured ch phase) := by
  cases hstate : s.channelState ch with
  | parked =>
    rw [State.phaseMeasured_of_parked hstate]
    split
    · next hmay => exact h.startRelease hstate ((s.mayRelease_iff ch).1 hmay).1
    · exact h
  | releasing =>
    rw [State.phaseMeasured_of_releasing hstate]
    exact h.releaseProgress hstate phase
  | tracking =>
    rw [State.phaseMeasured_of_tracking hstate]
    exact h.trackingEvent hstate phase
  | returning =>
    rw [State.phaseMeasured_of_returning hstate]
    exact h.returnProgress hstate phase
  | fault => rwa [State.phaseMeasured_of_fault hstate]

theorem releaseTick {ch : Channel} (hstate : s.channelState ch = .releasing) : r.Moves (s.releaseTick ch) := by
  have hkept : (s.sequencers.get ch).state = .releasing := hstate
  have hcounted := h.modSequencer (ch := ch)
    (f := fun q => { q with releaseCount := bump 8 (s.sequencers.get ch).releaseCount }) rfl
    fun hq => { hq with releaseCount := bump_le 8 _ }
  have htimed := hcounted.modSequencer (ch := ch)
    (f := fun q => { q with attempts := q.attempts - 1, retryHold := 2 }) rfl
    fun hq => { hq with attempts := (Nat.sub_le _ _).trans hq.attempts, retryHold := le_rfl }
  refine ite (ite (htimed.latchChannel ch .lockStuck) (htimed.stopChannel ?_ (.inl rfl))) hcounted
  simp [State.channelState, hkept]

theorem returnTick (ch : Channel) : r.Moves (s.returnTick ch) :=
  have hcounted := h.modSequencer (ch := ch)
    (f := fun q => { q with returnCount := bump 60 (s.sequencers.get ch).returnCount }) rfl
    fun hq => { hq with returnCount := bump_le 60 _ }
  ite (hcounted.latchChannel ch .noReturn) hcounted

theorem retryTick (ch : Channel) : r.Moves (s.retryTick ch) :=
  h.modSequencer rfl fun hq => { hq with retryHold := (Nat.sub_le _ _).trans hq.retryHold }

theorem sequencerTick (ch : Channel) : r.Moves (s.sequencerTick ch) := by
  have hheld : ∀ (p : Prop) [Decidable p], r.Moves (if p then s.retryTick ch else s) :=
    fun p _ => ite (h.retryTick ch) h
  have hreleased : ∀ u : State, r.Moves u → r.Moves (if u.channelState ch = .releasing then u.releaseTick ch else u) := by
    intro u hu
    split
    · next hstate => exact hu.releaseTick hstate
    · exact hu
  have hreturned : ∀ u : State, r.Moves u → r.Moves (if u.channelState ch = .returning then u.returnTick ch else u) :=
    fun u hu => ite (hu.returnTick ch) hu
  exact hreturned _ (hreleased _ (hheld _))

/-- The engine age comes to 9 with RUNNING and takes the running channels out, or makes no run condition false (R79). -/
theorem engineAging : r.Moves s.engineAging := by
  have haged : s.Steady (s.modEngine fun e => { e with age := bump 255 s.engine.age }) :=
    State.steady_modEngine (bump_le 255 _) rfl rfl
  simp only [State.engineAging]
  split
  · exact h.move (.exits haged rfl)
  · next hfresh =>
    refine h.move (.steady haged rfl (State.runConditions_of (hengine := ?_)))
    rintro ⟨hengine, hage⟩
    have hnine : bump 255 s.engine.age ≠ 9 := fun hn => hfresh ⟨hn, hengine⟩
    refine ⟨hengine, ?_⟩
    simp only [State.modEngine, bump] at hnine ⊢
    omega

/-! ### The cycle reference at every block -/

theorem targetCycleReference : r.Moves s.targetCycleReference :=
  ite (h.modTarget _).returnRunning (h.modTarget _)

/-- Oil-low rises and takes the running channels out, or is as it was or falls (R60, R61). -/
theorem afterOil {t : State} (ht : s.Steady t) (hagrees : s.evaluateOil.Agrees t) :
    r.Moves (if s.oilLowRises then t.returnRunning else t) := by
  have himax : t.imaxEff = s.imaxEff := hagrees.imaxEff
  split
  · exact h.move (.exits ht himax)
  · next hstays =>
    refine h.move (.steady ht himax fun ch hrun => (hagrees.runConditions ch).trans ?_)
    refine State.runConditions_of (s := s) (hlow := fun hlow => ?_) (ch := ch) (hrun := hrun)
    show s.evaluatedOil.low = false
    simpa [State.oilLowRises, hlow] using hstays

theorem oilConditions : r.Moves s.oilConditions :=
  h.afterOil (s.steady_modOil fun _ => s.evaluatedOil) {}

theorem budgetCompute : r.Moves s.budgetCompute := h.frame { low := rfl }

theorem oilCycleReference : r.Moves s.oilCycleReference :=
  h.afterOil ⟨fun _ => rfl, fun _ => rfl, rfl, fun hs => hs.congr⟩ { low := rfl }

theorem sequencerCycleReference : r.Moves s.sequencerCycleReference := by
  rw [State.sequencerCycleReference, State.eachChannel_def]
  exact (h.engineAging.sequencerTick .a).sequencerTick .b

theorem resistanceTrim (ch : Channel) : r.Moves (s.resistanceTrim ch) := h.frame {}

theorem queueStatus : r.Moves s.queueStatus := h.frame {}

theorem takeCycleReference (b : CycleBlock) : r.Moves (s.takeCycleReference b) := by
  cases b with
  | meterA => exact h.meterCycleReference .a
  | meterB => exact h.meterCycleReference .b
  | target => exact h.targetCycleReference
  | oil => exact h.oilCycleReference
  | sequencer => exact h.sequencerCycleReference
  | driverA => exact h.resistanceTrim .a
  | driverB => exact h.resistanceTrim .b
  | statusAssembly => exact h.queueStatus

theorem cycleReference (order : List CycleBlock) : r.Moves (s.cycleReference order) := by
  unfold State.cycleReference
  generalize blockOrder order = blocks
  induction blocks generalizing s with
  | nil => exact h
  | cons b bs ih => exact ih (h.takeCycleReference b)

/-! ### The decoder's events -/

theorem losesSync {f : Decoder → Decoder} (hcrank : (f s.decoder).crank ≠ .cycleSync) :
    r.Moves (s.modDecoder f).publishSyncLost := h.move (.losesSync f hcrank)

theorem countLoss : r.Moves s.countLoss :=
  have hcounted : ∀ n : Nat, r.Moves (s.modDecoder fun d => { d with lossCounter := n, lossFreeRun := 0 }) :=
    fun _ => h.modDecoder rfl
  ite ((hcounted _).latchStation .crankUnstable) (hcounted _)

theorem toothError (t : Tick) : r.Moves (s.toothError t) :=
  (h.losesSync (f := fun d => d.toothError t) (by simp [Decoder.toothError])).countLoss

theorem closeWindow : r.Moves (s.modStore fun c => { c with windowOpen := false }) :=
  h.move (.steady ⟨fun _ => rfl, fun _ => rfl, rfl, fun hs => hs.congr⟩ rfl (State.runConditions_of))

theorem gainRevSync (hcrank : s.decoder.crank ≠ .cycleSync) (t : Tick) : r.Moves (s.gainRevSync t) := by
  have hgained := h.unsynced (t := s.modDecoder fun d =>
    { d.toothZero t with crank := .revSync, half := none, prevCam := .both none }) hcrank
      (State.steady_modDecoder hcrank (by simp)) rfl
  have hunseen : ∀ u : State, r.Moves u → ∀ ch, r.Moves (u.modMeter ch fun m => { m with edgeSeen := false }) :=
    fun _ hu ch => hu.modMeter ch _
  exact (hunseen _ (hunseen _ hgained .a) .b).closeWindow

theorem publishRevolution : r.Moves s.publishRevolution := (h.revolutionTest .a).revolutionTest .b

theorem closeRevolution (t : Tick) (order : List CycleBlock) : r.Moves (s.closeRevolution t order) := by
  unfold State.closeRevolution
  split
  · exact (h.modDecoder rfl).publishRevolution
  · have hcycle : r.Moves (s.modDecoder fun d => { d.toothZero t with half := some .zero }.cycleReference) :=
      h.modDecoder (by simp [Decoder.cycleReference, Decoder.countCleanCycle_eq, Decoder.toothZero, Decoder.accept])
    exact hcycle.publishRevolution.cycleReference order
  · exact (h.modDecoder rfl).publishRevolution

theorem syncedEdge (t : Tick) (order : List CycleBlock) : r.Moves (s.syncedEdge t order) := by
  simp only [State.syncedEdge]
  split
  · exact ite (ite (h.modDecoder rfl) (h.toothError t)) (ite (h.closeRevolution t order) (h.toothError t))
  · exact h.toothError t

theorem seekEdge (hcrank : s.decoder.crank ≠ .cycleSync) (t : Tick) : r.Moves (s.seekEdge t) := by
  simp only [State.seekEdge]
  split
  · exact h.modDecoder rfl
  · exact ite (h.gainRevSync hcrank t) (h.modDecoder rfl)

theorem crankEdge (t : Tick) (order : List CycleBlock) : r.Moves (s.crankEdge t order) := by
  refine ite h ?_
  split
  · next hcrank =>
    exact h.unsynced (by simp [hcrank]) (State.steady_modDecoder (by simp [hcrank]) (by simp)) rfl
  · next hcrank => exact h.seekEdge (by simp [hcrank]) t
  · exact h.syncedEdge t order
  · exact h.syncedEdge t order

theorem stall : r.Moves s.stall := by
  have hstopped : (Decoder.stall s.decoder).crank ≠ .cycleSync := by simp [Decoder.stall]
  unfold State.stall
  split
  · exact h
  · next hcrank => exact h.unsynced (by simp [hcrank]) (State.steady_modDecoder (by simp [hcrank]) hstopped) rfl
  · exact h.losesSync hstopped
  · exact h.losesSync hstopped

theorem measureEdge (ch : Channel) (angle : Nat) : r.Moves (s.measureEdge ch angle) := by
  simp only [State.measureEdge]
  split
  · exact h.modMeter ch _
  · exact ite (h.modMeter ch _) ((h.modMeter ch _).phaseMeasured ch _)

theorem captureEdge (ch : Channel) (angle : Option Nat) : r.Moves (s.captureEdge ch angle) := by
  have hseen := h.modMeter ch fun m => { m with edgeSeen := true, missing := 0 }
  cases angle with
  | none => exact hseen
  | some a => exact hseen.measureEdge ch a

theorem camEdge (ch : Channel) (t : Tick) : r.Moves (s.camEdge ch t) := by
  have hmarked : ∀ rev, r.Moves (s.modDecoder fun d => { d with prevCam := d.prevCam.set ch rev }) :=
    fun _ => h.modDecoder rfl
  simp only [State.camEdge]
  split
  · exact h
  · exact h
  · next hcrank =>
    split
    · have hgained := (hmarked (some (s.decoder.revAngle t))).unsynced (by simp [hcrank])
        (State.steady_publishCycleSync
          (f := fun d => { d with crank := .cycleSync, half := some (closePairHalf s.straps.role) }) rfl) rfl
      exact hgained.captureEdge ch _
    · exact (hmarked _).captureEdge ch none
  · split
    · have hlost := (hmarked (some (s.decoder.revAngle t))).losesSync (f := Decoder.halfConflict)
        (by simp [Decoder.halfConflict])
      exact (hlost.captureEdge ch none).countLoss
    · exact (hmarked _).captureEdge ch _

theorem deliverEdge (pin : AnglePin) (t : Tick) (order : List CycleBlock) : r.Moves (s.deliverEdge pin t order) := by
  unfold State.deliverEdge
  split
  · exact h.crankEdge t order
  · exact h.camEdge _ t

/-! ### Samples -/

theorem openCoilTest (ch : Channel) (sample : Nat) : r.Moves (s.openCoilTest ch sample) :=
  ite (ite ((h.modDriver ch _).latchChannel ch .openCoil) (h.modDriver ch _)) (h.modDriver ch _)

theorem tripDriver (ch : Channel) : r.Moves (s.tripDriver ch) := (h.modDriver ch _).latchChannel ch .overcurrent

/-- A cut that sets takes the running channels out (R127). -/
theorem evaluateSupply (v : Int) : r.Moves (s.evaluateSupply v) := by
  have hsteady := s.steady_conditions fun c => { c with underVoltage := underVoltageAfter s.conditions.underVoltage v }
  simp only [State.evaluateSupply]
  split
  · exact h.move (.exits hsteady (by simp [State.imaxEff]))
  · next hset =>
    refine h.move (.steady hsteady (by simp [State.imaxEff]) (State.runConditions_of (hunder := fun hunder => ?_)))
    simpa [hunder] using hset

theorem evaluateDerate (θ : Int) : r.Moves (s.evaluateDerate θ) := h.move (.derates θ)

/-- A thermal cut that sets takes the running channels out (R129). -/
theorem evaluateThermalCut (θ : Int) : r.Moves (s.evaluateThermalCut θ) := by
  have hsteady := s.steady_conditions fun c => { c with thermalCut := thermalCutAfter s.conditions.thermalCut θ }
  simp only [State.evaluateThermalCut]
  refine ite h ?_
  split
  · exact h.move (.exits hsteady (by simp [State.imaxEff]))
  · next hset =>
    exact h.move (.steady hsteady (by simp [State.imaxEff]) (State.runConditions_of (hcut := fun _ => by simpa using hset)))

theorem rangeCheck (code : Code12) : r.Moves (s.rangeCheck code) := by
  have hcleared := h.modSense (f := fun n => { n with rangeRun := 0 }) fun hn => { hn with rangeRun := Nat.zero_le _ }
  unfold State.rangeCheck
  refine ite hcleared ?_
  split
  · exact hcleared.latchStation .oilpSensor
  · next hrun => exact h.modSense fun hn => { hn with rangeRun := by simp only; omega }

/-! ### Frames -/

/-- An ENGINE frame that says RUNNING makes no run condition false (R78). -/
theorem engineArrival (code : Word16) : r.Moves (s.engineArrival code) := by
  have hstored : s.Steady (s.modEngine fun e => { e with engine := readEngineState code, age := 0 }) :=
    State.steady_modEngine (Nat.zero_le _) rfl rfl
  simp only [State.engineArrival]
  split
  · next hrunning =>
    exact h.move (.steady hstored rfl (State.runConditions_of (hengine := fun _ => ⟨hrunning, Nat.zero_le _⟩)))
  · exact h.move (.exits hstored rfl)

theorem takeConfig (addressed : Bool) (id value : Word16) : r.Moves (s.takeConfig addressed id value) := by
  cases hwindow : s.store.windowOpen with
  | false =>
    have hignored : s.takeConfig addressed id value = s := by simp [State.takeConfig, hwindow]
    rwa [hignored]
  | true =>
    exact h.move (.configured hwindow
      ⟨fun ch => by simp [State.channelState], s.takeConfig_command addressed id value, by simp, fun hs => hs.congr⟩)

theorem deliver (f : Frame) (straps : Straps) : r.Moves (s.deliver f straps) := by
  unfold State.deliver
  split
  · exact h.modTarget _
  · exact h.engineArrival _
  · exact h.frame { low := rfl }
  · exact h.move (.clears _)
  · exact h.takeConfig _ _ _
  · exact ite h.closeWindow h
  · exact ite (h.move (.resets straps false)) h
  · exact h

theorem receive (f : Frame) (straps : Straps) : r.Moves (s.receive f straps) :=
  have hread := h.atBitRead fun l => l.endFrame.countGood
  ite (ite ((hread.modLink _).latchStation .addressClash) (ite (hread.deliver f straps) hread)) h

end State.Moves

end Sys2Proof.Machine
end

section
/-! PROOF. Every command and every step is made of the moves of the channels. -/

namespace Sys2Proof.Machine

/-! ### Commands whose effect is more than one operation -/

section Commands

variable {s t : State}

/-- A meaning is made of moves if its effect is; while VDD is low it has none (R174). -/
theorem act_moves {f : State → State} (hact : act s f = .next t) (hf : s.Moves (f s)) : s.Moves t := by
  obtain rfl : (if s.supplyLow then s else f s) = t := Host.Outcome.next.inj hact
  exact .ite .refl hf

theorem execPowerOnReset_moves {edge : SupplyEdge} {pins : StrapPins} (hexec : execPowerOnReset edge pins s = .next t) :
    s.Moves t := by
  have hstart : s.Moves s := .refl
  cases edge with
  | falls => cases hexec; exact hstart.move (.resets s.straps true)
  | rises =>
    obtain rfl := Host.Outcome.next.inj hexec
    exact .ite (hstart.move (.resets (sampleStraps pins) false)) hstart

theorem execGlitch_moves {pin : AnglePin} (hexec : execGlitch pin s = .next t) : s.Moves t := by
  have hstart : s.Moves s := .refl
  have hclosed : s.Moves (s.closeCandidate pin) := hstart.frame {}
  refine act_moves hexec (.ite ?_ hstart)
  simp only
  split
  · exact hclosed
  · exact .ite (hclosed.modMeter _ _) hclosed

theorem execFilterTimeExpiry_moves {pin : AnglePin} {order : List CycleBlock}
    (hexec : execFilterTimeExpiry pin order s = .next t) : s.Moves t := by
  have hstart : s.Moves s := .refl
  refine act_moves hexec ?_
  split
  · exact hstart
  · have hrecognised : ∀ n, s.Moves ((s.elapse n).recognise pin) := fun n => (hstart.elapse n).frame {}
    simp only
    split
    · exact hrecognised _
    · exact (hrecognised _).deliverEdge pin _ order

/-- The PARK pin's time runs exactly while the pin holds another level than the recognised one (R80). -/
theorem execParkPinChange_moves (hexec : execParkPinChange s = .next t) : s.Moves t := by
  have hstart : s.Moves s := .refl
  obtain rfl := Host.Outcome.next.inj hexec
  refine hstart.move (.steady ⟨fun _ => rfl, fun _ => rfl, rfl, fun h => ?_⟩ rfl State.runConditions_of)
  refine { h with timers := { h.timers with park := fun n hn => ?_ }, park := ?_ }
  · simp only [State.modTimers] at hn
    split at hn <;> cases hn
    exact Nat.zero_le _
  · by_cases hpin : s.engine.parkPin.other = recognisedLevel s.engine.parkRequest <;> simp [hpin]

/-- The recognised level becomes the pin's, and its time stops (R80). -/
theorem steady_parkRecognised :
    s.Steady ((s.modTimers fun t => { t with park := none }).modEngine fun e =>
      { e with parkRequest := decide (s.engine.parkPin = .high) }) := by
  refine ⟨fun _ => rfl, fun _ => rfl, rfl, fun h => ?_⟩
  refine { h with timers := { h.timers with park := fun n hn => by cases hn }, park := ?_ }
  cases hpin : s.engine.parkPin <;> simp [hpin, recognisedLevel]

theorem execParkRequestRecognised_moves (hexec : execParkRequestRecognised s = .next t) : s.Moves t := by
  have hstart : s.Moves s := .refl
  refine act_moves hexec ?_
  split
  · exact hstart
  · next n _ =>
    have hpassed := hstart.elapse (ticksLeft millisecond n)
    simp only
    split
    · exact hpassed.move (.exits steady_parkRecognised rfl)
    · next hrequest =>
      exact hpassed.move (.steady steady_parkRecognised rfl (State.runConditions_of (hpark := fun _ => by
        simpa using hrequest)))

theorem execPwmPeriodStart_moves {ch : Channel} (hexec : execPwmPeriodStart ch s = .next t) : s.Moves t :=
  have hstart : s.Moves s := .refl
  act_moves hexec (((hstart.elapse _).modTimers (Timers.runs_periodStart _ ch _ _ _)).modDriver ch _)

theorem execVsupSample_moves {code : Code12} (hexec : execVsupSample code s = .next t) : s.Moves t := by
  have hstart : s.Moves s := .refl
  have hsampled : s.Moves
      (s.completeSlot.modSense fun n => { n with supply := some (filtered s.sense.supply (scaleSupply code)) }) := by
    refine hstart.completeSlot.modSense fun h => ?_
    have hsense : s.completeSlot.sense = s.sense := by simp
    rw [hsense] at h ⊢
    exact h.storeSupply code
  exact act_moves hexec (.ite (hsampled.evaluateSupply _) hstart)

theorem execTdieSample_moves {code : Code12} (hexec : execTdieSample code s = .next t) : s.Moves t := by
  have hstart : s.Moves s := .refl
  have hsampled : s.Moves
      (s.completeSlot.modSense fun n =>
        { n with temperature := some (filtered s.sense.temperature (scaleTemperature code)) }) := by
    refine hstart.completeSlot.modSense fun h => ?_
    have hsense : s.completeSlot.sense = s.sense := by simp
    rw [hsense] at h ⊢
    exact h.storeTemperature code
  exact act_moves hexec (.ite ((hsampled.evaluateDerate _).evaluateThermalCut _) hstart)

theorem execTransmissionComplete_moves (hexec : execTransmissionComplete s = .next t) : s.Moves t := by
  have hstart : s.Moves s := .refl
  have hcleared : ∀ (u : State) (f : Frame) (ch : Channel), s.Moves u → s.Moves (u.clearReached f ch) :=
    fun _ _ _ hu => .ite (hu.modController rfl) hu
  refine act_moves hexec ?_
  unfold State.completeTransmission
  split
  · exact hstart
  · next k f _ =>
    have hcomplete := hstart.atBitRead fun l => l.complete k
    exact .ite (hcleared _ _ _ (hcleared _ _ _ hcomplete)) hcomplete

end Commands

/-! ### Every command and every step -/

theorem exec_moves {c : Instr} {s t : State} (hexec : exec c s = .next t) : s.Moves t := by
  have hstart : s.Moves s := .refl
  cases c with
  | powerOnReset => exact execPowerOnReset_moves hexec
  | glitch => exact execGlitch_moves hexec
  | filterTimeExpiry => exact execFilterTimeExpiry_moves hexec
  | parkPinChange => exact execParkPinChange_moves hexec
  | parkRequestRecognised => exact execParkRequestRecognised_moves hexec
  | pwmPeriodStart => exact execPwmPeriodStart_moves hexec
  | vsupSample => exact execVsupSample_moves hexec
  | tdieSample => exact execTdieSample_moves hexec
  | transmissionComplete => exact execTransmissionComplete_moves hexec
  | filterCandidateOpen pin stamp =>
    have hpassed : s.Moves (s.elapseTo stamp) := hstart.elapse _
    have hopened : s.Moves ((s.elapseTo stamp).openCandidate pin stamp) := hpassed.frame {}
    dsimp only [exec, execFilterCandidateOpen] at hexec
    exact act_moves hexec (.ite hstart hopened)
  | stallTimerExpiry => exact act_moves hexec (.ite (hstart.elapse _).stall hstart)
  | crankUnstable => exact act_moves hexec (.ite hstart.countLoss hstart)
  | lossFreeRunExpiry =>
    exact act_moves hexec (.ite (hstart.modDecoder (by simp [Decoder.countCleanCycle_eq])) hstart)
  | camLost ch => exact act_moves hexec (.ite (hstart.revolutionTest ch) hstart)
  | camNoise ch => exact act_moves hexec (.ite (hstart.noiseTest ch) hstart)
  | target | status | engine | clear | config | close | restart | faultFrameReceived =>
    exact act_moves hexec (hstart.receive _ _)
  | framePassedOver | addressClash => exact act_moves hexec (.ite (hstart.receive _ _) hstart)
  | targetStale => exact act_moves hexec (.ite hstart.targetCycleReference hstart)
  | oilReady | oilLow => exact act_moves hexec (.ite hstart.oilConditions hstart)
  | peerEntryExpiry => exact act_moves hexec (.ite hstart.budgetCompute hstart)
  | engineStateStale => exact act_moves hexec (.ite hstart.engineAging hstart)
  | retryHoldExpiry ch => exact act_moves hexec (.ite (hstart.retryTick ch) hstart)
  | noReturn ch => exact act_moves hexec (.ite (hstart.returnTick ch) hstart)
  | releaseTimeout ch =>
    refine act_moves hexec ?_
    split
    · next hdue =>
      obtain ⟨_, hstate, _⟩ := hdue
      exact hstart.releaseTick hstate
    · exact hstart
  | releaseSuccess ch =>
    dsimp only [exec, execReleaseSuccess] at hexec
    refine act_moves hexec ?_
    (repeat' split)
    · exact hstart
    · next hdue => exact hstart.releaseProgress hdue.1 _
    · exact hstart
  | returnArrival ch =>
    dsimp only [exec, execReturnArrival] at hexec
    refine act_moves hexec ?_
    (repeat' split)
    · exact hstart
    · next hdue => exact hstart.returnProgress hdue.1 _
    · exact hstart
  | nullTransfer ch =>
    dsimp only [exec, execNullTransfer] at hexec
    refine act_moves hexec ?_
    split
    · exact hstart
    · exact .ite (hstart.modController (Controller.stationaryUpdate_command _ _)) hstart
  | trackError ch =>
    dsimp only [exec, execTrackError] at hexec
    refine act_moves hexec ?_
    split
    · exact hstart
    · exact .ite (hstart.trackErrorUpdate ch _) hstart
  | onTimeEnd ch => exact act_moves hexec (.ite ((hstart.elapse _).modDriver ch _) hstart)
  | overcurrent ch =>
    dsimp only [exec, execOvercurrent] at hexec
    refine act_moves hexec ?_
    split
    · exact hstart
    · exact .ite ((hstart.elapse _).tripDriver ch) hstart
  | openCoilBlankingExpiry ch =>
    dsimp only [exec, execOpenCoilBlankingExpiry] at hexec
    refine act_moves hexec ?_
    split
    · exact hstart
    · refine (hstart.elapse _).modTimers (Timers.runs_setBlanking _ fun c n hn => ?_)
      simp only [Pair.get_set] at hn
      split at hn
      · cases hn
      · exact .inr hn
  | openCoil ch =>
    dsimp only [exec, execOpenCoil] at hexec
    refine act_moves hexec ?_
    split
    · exact hstart
    · exact .ite (hstart.openCoilTest ch _) hstart
  | currentSample ch =>
    exact act_moves hexec
      (.ite ((hstart.completeSlot.modSense fun h => h.storeCurrent _ ch).openCoilTest ch _) hstart)
  | oilpSample =>
    exact act_moves hexec (.ite ((hstart.completeSlot.modSense fun h => h.storePressure _).rangeCheck _) hstart)
  | oilpSensor => exact act_moves hexec (.ite (hstart.rangeCheck _) hstart)
  | frameDiscarded => exact act_moves hexec (.ite (hstart.atBitRead _) hstart)
  | linkErrors | linkErrorsCleared => exact act_moves hexec (.ite (hstart.modLink _) hstart)
  | sendStart => exact act_moves hexec (.ite ((hstart.elapse _).modLink _) hstart)
  | lostArbitration | bitError => exact act_moves hexec (.ite (hstart.atBitRead _) hstart)
  | slotDrop => exact act_moves hexec (.ite (.ite (hstart.atBitRead _) hstart) hstart)
  | busStuck => exact act_moves hexec (.ite ((hstart.passDominant _).modLink _) hstart)
  | busStuckCleared => exact act_moves hexec (.ite (hstart.elapse _) hstart)
  | statusTimerExpiry =>
    dsimp only [exec, execStatusTimerExpiry] at hexec
    refine act_moves hexec ?_
    split
    · exact hstart
    · exact ((hstart.elapse _).modTimers (Timers.runs_takeStatus _)).queueStatus
  | faultPulseExpiry =>
    dsimp only [exec, execFaultPulseExpiry] at hexec
    refine act_moves hexec ?_
    split
    · exact hstart
    · exact (hstart.elapse _).modTimers (Timers.runs_setPulse _ (by simp))
  | startBit => exact act_moves hexec (.ite ((hstart.passDominant _).modLink _) hstart)

/-- What a step can do to the channels, to the timers, to the sequencers and to the sense sequencer. -/
theorem step_moves {s t : State} (hstep : step s = .next t) : s.Moves t := by
  have hstart : s.Moves s := .refl
  unfold step at hstep
  split at hstep
  · obtain rfl := Host.Outcome.next.inj hstep
    exact .ite hstart (hstart.elapse 1)
  · next rest _ =>
    have hqueue : s.Moves { s with pending := rest } := hstart.frame {}
    exact hqueue.trans (exec_moves hstep)

end Sys2Proof.Machine
end

section
/-! PROOF. The rules that every move keeps, and so every step: FAULT with the fault set (O49), the run conditions (O50), the
command within Imax_eff (O51), and the items of the timers, the sequencers and the sense sequencer (O58). -/

namespace Sys2Proof.Machine

open Safety

/-! ### What a move does to each channel -/

theorem State.derate_steady (s : State) (θ : Int) (ch : Channel) :
    (s.evaluateDerate θ).channelState ch = s.channelState ch := by simp [State.channelState]

/-- "Sync lost" leaves a channel in FAULT exactly if it was there (R91). -/
theorem Sequencer.syncLost_fault_iff (q : Sequencer) : q.syncLost.state = .fault ↔ q.state = .fault := by
  unfold Sequencer.syncLost
  split <;> simp_all

theorem State.publishSyncLost_channel {s : State} (hcrank : s.decoder.crank ≠ .cycleSync) (ch : Channel) :
    s.publishSyncLost.sequencers.get ch = (s.sequencers.get ch).syncLost ∧
      s.publishSyncLost.controllers.get ch = (s.controllers.get ch).syncLost (s.channelState ch) := by
  rw [State.publishSyncLost_eq hcrank]
  cases ch <;> exact ⟨rfl, rfl⟩

theorem State.resetWith_channel (s : State) (straps : Straps) (ch : Channel) :
    (s.resetWith straps).channelState ch = .parked ∧ (s.resetWith straps).command ch = 0 ∧
      ((s.resetWith straps).faults.channel.get ch).isEmpty = true := by
  cases ch <;> exact ⟨rfl, rfl, rfl⟩

theorem State.takeClear_channel (s : State) (w : Word16) (ch : Channel) :
    ((s.takeClear w).channelState ch = s.channelState ch ∧ (s.takeClear w).command ch = s.command ch ∧
        (s.takeClear w).faults.channel.get ch = s.faults.channel.get ch) ∨
      ((s.takeClear w).channelState ch = (if s.channelState ch = .fault then .parked else s.channelState ch) ∧
        (s.takeClear w).command ch = (if s.channelState ch = .fault then 0 else s.command ch) ∧
        (s.takeClear w).faults.channel.get ch = .empty) := by
  rw [State.takeClear_eq]
  simp only [State.channelState, State.command, Pair.get_replaceWhere]
  split
  · exact .inr ⟨rfl, rfl, rfl⟩
  · exact .inl ⟨rfl, rfl, rfl⟩

/-- A new latch makes its channel's command 0, and leaves the other channel's (R75, R92). -/
theorem State.latchChannel_command {s : State} {ch : Channel} {k : ChannelFault}
    (hn : (s.faults.channel.get ch).has k = false) (c : Channel) :
    (s.latchChannel ch k).command c = if c = ch then 0 else s.command c := by
  rw [State.latchChannel_eq hn]
  simp only [State.command, Pair.get_set]
  split <;> rfl

/-! ### FAULT exactly with a fault set that is not empty (R92) -/

section FaultState

variable {s t : State}

theorem ChannelFaults.isEmpty_add (f : ChannelFaults) (k : ChannelFault) : (f.add k).isEmpty = false := by
  refine Bool.eq_false_iff.2 fun hempty => ?_
  have hkind := (ChannelFaults.isEmpty_iff _).1 hempty k
  rw [ChannelFaults.has_add, if_pos rfl] at hkind
  cases hkind

/-- A move that leaves the channels' fault sets, and each channel in FAULT exactly if it was there. -/
theorem faultStateAgrees_of (h : FaultStateAgrees s) (hfaults : t.faults.channel = s.faults.channel)
    (hstate : ∀ ch, t.channelState ch = .fault ↔ s.channelState ch = .fault) : FaultStateAgrees t := fun ch => by
  rw [hfaults, hstate ch]
  exact h ch

theorem faultStateAgrees_latch (h : FaultStateAgrees s) (ch : Channel) (k : ChannelFault) :
    FaultStateAgrees (s.latchChannel ch k) := by
  cases hk : (s.faults.channel.get ch).has k with
  | true => rwa [State.latchChannel_of_has hk]
  | false =>
    intro c
    rw [State.latchChannel_state, State.latchChannel_faults, hk]
    simp only [Bool.false_eq_true, if_false, Pair.get_set, and_true]
    split
    · simp [ChannelFaults.isEmpty_add]
    · exact h c

theorem faultStateAgrees_clear (h : FaultStateAgrees s) (w : Word16) : FaultStateAgrees (s.takeClear w) := by
  intro ch
  rcases s.takeClear_channel w ch with ⟨hstate, _, hfaults⟩ | ⟨hstate, _, hfaults⟩
  · rw [hstate, hfaults]
    exact h ch
  · have hempty : ChannelFaults.empty.isEmpty = true := rfl
    rw [hstate, hfaults, hempty]
    split <;> simp_all

theorem faultStateAgrees_move (hmove : s.Move t) (h : FaultStateAgrees s) : FaultStateAgrees t := by
  cases hmove with
  | steady hsteady | configured _ hsteady =>
    exact faultStateAgrees_of h hsteady.faults fun ch => by rw [hsteady.state ch]
  | exits hsteady =>
    refine faultStateAgrees_of h (by simp [hsteady.faults]) fun ch => ?_
    rw [State.returnRunning_state, hsteady.state ch]
    split
    · next hrun =>
      have hold : s.channelState ch ≠ .fault := by intro hf; rw [hf] at hrun; cases hrun
      split <;> simp [hold]
    · rfl
  | changes ch new hold hnew =>
    refine faultStateAgrees_of h (by simp) fun c => ?_
    rw [State.setChannelState_state]
    split
    · next hc => simp [hc, hold, hnew]
    · rfl
  | commands => exact faultStateAgrees_of h (by simp) fun c => by simp [State.channelState]
  | derates => exact faultStateAgrees_of h (by simp) fun c => by rw [State.derate_steady]
  | latches ch k => exact faultStateAgrees_latch h ch k
  | clears w => exact faultStateAgrees_clear h w
  | losesSync f hcrank =>
    refine faultStateAgrees_of h (by simp) fun ch => ?_
    obtain ⟨hsequencer, _⟩ := State.publishSyncLost_channel (s := s.modDecoder f) hcrank ch
    rw [State.channelState, hsequencer]
    exact Sequencer.syncLost_fault_iff _
  | resets straps low =>
    intro ch
    obtain ⟨hstate, _, hempty⟩ := s.resetWith_channel straps ch
    show (s.resetWith straps).channelState ch = .fault ↔ ((s.resetWith straps).faults.channel.get ch).isEmpty = false
    rw [hstate, hempty]
    decide

end FaultState

/-- Settles O49: every move of a step keeps the rule. -/
theorem faultStateKept : Obligations.FaultStateKept := fun _ _ h hstep =>
  (step_moves hstep).keeps (fun _ _ => faultStateAgrees_move) h

/-! ### A running channel with every run condition (R76) -/

section RunConditions

variable {s t : State}

theorem runConditionsHold_of_none_runs (h : ∀ ch, (t.channelState ch).running = false) : RunConditionsHold t :=
  fun ch hrun => by rw [h ch] at hrun; cases hrun

/-- While the window is open no channel runs (R76). -/
theorem none_runs_of_windowOpen (h : RunConditionsHold s) (hwindow : s.store.windowOpen = true) (ch : Channel) :
    (s.channelState ch).running = false := by
  cases hrun : (s.channelState ch).running with
  | false => rfl
  | true =>
    obtain ⟨_, hclosed, _⟩ := (s.runConditions_iff ch).1 (h ch hrun)
    rw [hwindow] at hclosed
    cases hclosed

theorem State.setChannelState_runConditions (s : State) (ch c : Channel) (new : ChannelState) :
    (s.setChannelState ch new).runConditions c = s.runConditions c := by
  simp [State.runConditions]

theorem runConditionsHold_change (h : RunConditionsHold s) {ch : Channel} {new : ChannelState}
    (hrun : new.running = true → (s.channelState ch).running = true ∨ s.runConditions ch = true) :
    RunConditionsHold (s.setChannelState ch new) := by
  intro c hc
  rw [State.setChannelState_state] at hc
  rw [State.setChannelState_runConditions]
  split at hc
  · next hch =>
    subst hch
    exact (hrun hc).elim (h c) id
  · exact h c hc

/-- A latch takes its channel out, and changes no run condition of the other (R92). -/
theorem runConditionsHold_latch (h : RunConditionsHold s) (ch : Channel) (k : ChannelFault) :
    RunConditionsHold (s.latchChannel ch k) := by
  cases hk : (s.faults.channel.get ch).has k with
  | true => rwa [State.latchChannel_of_has hk]
  | false =>
    intro c hc
    rw [State.latchChannel_state, hk] at hc
    by_cases hch : c = ch
    · simp [hch, ChannelState.running] at hc
    · simp only [hch, false_and, if_false] at hc
      have hset : (s.latchChannel ch k).faults.channel.get c = s.faults.channel.get c := by
        rw [State.latchChannel_faults, hk]
        exact Pair.get_set_ne _ hch _
      have hstation : (s.latchChannel ch k).faults.station = s.faults.station := by
        rw [State.latchChannel_faults, hk]; rfl
      simpa [State.runConditions, hset, hstation] using h c hc

/-- A CLEAR starts no channel, and empties fault sets (R94, R179). -/
theorem runConditionsHold_clear (h : RunConditionsHold s) (w : Word16) : RunConditionsHold (s.takeClear w) := by
  intro ch hrun
  have hold : (s.channelState ch).running = true := by
    rcases s.takeClear_channel w ch with ⟨hstate, _⟩ | ⟨hstate, _⟩ <;> rw [hstate] at hrun
    · exact hrun
    · split at hrun
      · cases hrun
      · exact hrun
  obtain ⟨crank, window, park, low, engine, age, under, cut, station, channel⟩ := (s.runConditions_iff ch).1 (h ch hold)
  refine (State.runConditions_iff _ ch).2 ⟨?_, ?_, ?_, ?_, ?_, ?_, ?_, ?_, fun k => ?_, fun k => ?_⟩
  · rw [State.takeClear_decoder]
    split <;> exact crank
  · rw [State.takeClear_eq]; exact window
  · rw [State.takeClear_eq]; exact park
  · rw [State.takeClear_eq]; exact low
  · rw [State.takeClear_eq]; exact engine
  · rw [State.takeClear_eq]; exact age
  · rw [State.takeClear_eq]; exact under
  · rw [State.takeClear_eq]; exact cut
  · rw [State.takeClear_eq]
    simp only
    split
    · cases k <;> rfl
    · exact station k
  · rcases s.takeClear_channel w ch with ⟨_, _, hfaults⟩ | ⟨_, _, hfaults⟩ <;> rw [hfaults]
    · exact channel k
    · cases k <;> rfl

theorem runConditionsHold_move (hmove : s.Move t) (h : RunConditionsHold s) : RunConditionsHold t := by
  cases hmove with
  | steady hsteady _ hrun =>
    intro ch hc
    rw [hsteady.state ch] at hc
    exact hrun ch (h ch hc)
  | exits => exact runConditionsHold_of_none_runs (State.returnRunning_none_runs _)
  | configured hwindow hsteady =>
    exact runConditionsHold_of_none_runs fun ch => by rw [hsteady.state ch]; exact none_runs_of_windowOpen h hwindow ch
  | changes ch new _ _ hrun => exact runConditionsHold_change h hrun
  | commands ch i =>
    intro c hc
    have hkept : (s.setCommand ch i).runConditions c = s.runConditions c := by simp [State.runConditions]
    rw [hkept]
    exact h c (by simpa [State.channelState] using hc)
  | derates θ =>
    intro c hc
    rw [State.derate_steady] at hc
    have hconditions := s.evaluateDerate_conditions θ
    exact State.runConditions_of (hunder := by simp [hconditions]) (hcut := by simp [hconditions]) (ch := c)
      (hrun := h c hc)
  | latches ch k => exact runConditionsHold_latch h ch k
  | clears w => exact runConditionsHold_clear h w
  | losesSync f hcrank => exact runConditionsHold_of_none_runs (State.publishSyncLost_none_runs hcrank)
  | resets straps low =>
    refine runConditionsHold_of_none_runs fun ch => ?_
    obtain ⟨hstate, _⟩ := s.resetWith_channel straps ch
    exact congrArg ChannelState.running hstate

end RunConditions

/-- Settles O50: every move of a step keeps the rule. -/
theorem runConditionsKept : Obligations.RunConditionsKept := fun _ _ h hstep =>
  (step_moves hstep).keeps (fun _ _ => runConditionsHold_move) h

/-! ### A command within Imax_eff, and 0 outside RELEASING and TRACKING (R75, R99) -/

section CommandBound

variable {s t : State}

/-- A move that leaves Imax_eff, after which each command is 0 or has stayed with its channel's state. -/
theorem commandBounded_of (h : CommandBounded s) (himax : t.imaxEff = s.imaxEff)
    (hcommand : ∀ ch, t.command ch = 0 ∨ t.command ch = s.command ch ∧ t.channelState ch = s.channelState ch) :
    CommandBounded t := by
  intro ch
  rcases hcommand ch with hzero | ⟨hsame, hstate⟩
  · rw [hzero]
    exact ⟨Nat.zero_le _, fun _ => rfl⟩
  · rw [hsame, hstate, himax]
    exact h ch

theorem commandBounded_of_zero (h : ∀ ch, t.command ch = 0) : CommandBounded t := fun ch => by
  rw [h ch]
  exact ⟨Nat.zero_le _, fun _ => rfl⟩

theorem commandBounded_change (h : CommandBounded s) {ch : Channel} {new : ChannelState} :
    CommandBounded (s.setChannelState ch new) := by
  have himax : (s.setChannelState ch new).imaxEff = s.imaxEff := by simp [State.imaxEff]
  intro c
  obtain ⟨hle, hzero⟩ := h c
  rw [State.setChannelState_command, State.setChannelState_state, himax]
  by_cases hc : c = ch
  · cases hnew : new.running <;> simp [hc, hnew]
    exact hc ▸ hle
  · simpa [hc] using ⟨hle, hzero⟩

theorem commandBounded_command (h : CommandBounded s) {ch : Channel} {i : Nat}
    (hrun : (s.channelState ch).running = true) (hi : i ≤ s.imaxEff) : CommandBounded (s.setCommand ch i) := by
  have himax : (s.setCommand ch i).imaxEff = s.imaxEff := by simp [State.imaxEff]
  have hstate : ∀ c, (s.setCommand ch i).channelState c = s.channelState c := fun c => by simp [State.channelState]
  intro c
  rw [State.setCommand_command, himax, hstate]
  split
  · next hc =>
    refine ⟨hi, fun hstops => ?_⟩
    rw [hc, hrun] at hstops
    cases hstops
  · exact h c

/-- The event that changes Imax_eff brings every command within it (R106, R128). -/
theorem State.limitedCommand_le (h : CommandBounded s) (θ : Int) (ch : Channel) :
    (s.withDerate θ).limitedCommand ch ≤ (s.withDerate θ).imaxEff ∧
      ((s.channelState ch).running = false → (s.withDerate θ).limitedCommand ch = 0) := by
  obtain ⟨hle, hzero⟩ := h ch
  have hstate : (s.withDerate θ).channelState ch = s.channelState ch := rfl
  have hcommand : (s.withDerate θ).command ch = s.command ch := rfl
  unfold State.limitedCommand
  rw [hstate]
  cases hc : s.channelState ch with
  | releasing => exact ⟨min_le_right _ _, fun hstops => by cases hstops⟩
  | tracking =>
    refine ⟨?_, fun hstops => by cases hstops⟩
    simp only
    split
    · exact min_le_right _ _
    · next hclear =>
      have hlimit : s.imaxEff ≤ s.store.params.currentLimit := by
        unfold State.imaxEff
        split
        · exact Nat.div_le_self _ 2
        · exact le_rfl
      have hfull : (s.withDerate θ).imaxEff = s.store.params.currentLimit := by
        rw [State.imaxEff, if_neg hclear]; rfl
      rw [hfull]
      exact hle.trans hlimit
  | parked | returning | fault =>
    have hstopped : s.command ch = 0 := hzero (by rw [hc]; rfl)
    simp [hcommand, hstopped]

theorem commandBounded_derate (h : CommandBounded s) (θ : Int) : CommandBounded (s.evaluateDerate θ) := by
  by_cases hsame : derateAfter s.conditions.derate θ = s.conditions.derate
  · rwa [State.evaluateDerate_of_same s hsame]
  · intro ch
    have himax : (s.evaluateDerate θ).imaxEff = (s.withDerate θ).imaxEff := by
      simp only [State.imaxEff, State.evaluateDerate_conditions, State.evaluateDerate_frame]
      rfl
    have hcommand : (s.evaluateDerate θ).command ch = (s.withDerate θ).limitedCommand ch := by
      obtain ⟨hcontroller, _⟩ := (s.withDerate θ).limitCommands_channel ch
      rw [State.evaluateDerate_of_change s hsame, State.command, hcontroller]
    rw [himax, hcommand, State.derate_steady]
    exact State.limitedCommand_le h θ ch

theorem commandBounded_latch (h : CommandBounded s) (ch : Channel) (k : ChannelFault) :
    CommandBounded (s.latchChannel ch k) := by
  cases hk : (s.faults.channel.get ch).has k with
  | true => rwa [State.latchChannel_of_has hk]
  | false =>
    refine commandBounded_of h (by simp [State.imaxEff]) fun c => ?_
    rw [State.latchChannel_command hk, State.latchChannel_state]
    by_cases hc : c = ch <;> simp [hc]

/-- "Sync lost" makes a command 0, or leaves it with its channel's state (R75, R91). -/
theorem syncLost_command (q : Sequencer) (c : Controller) :
    (c.syncLost q.state).command = 0 ∨ (c.syncLost q.state).command = c.command ∧ q.syncLost.state = q.state := by
  unfold Controller.syncLost Sequencer.syncLost
  cases hstate : q.state with
  | parked | fault => exact .inr ⟨rfl, hstate⟩
  | releasing | tracking | returning => exact .inl rfl

theorem commandBounded_move (hmove : s.Move t) (hrun : RunConditionsHold s) (h : CommandBounded s) :
    CommandBounded t := by
  cases hmove with
  | steady hsteady himax =>
    exact commandBounded_of h himax fun ch => .inr ⟨hsteady.command ch, hsteady.state ch⟩
  | @exits u hsteady himax =>
    have hu : CommandBounded u := commandBounded_of h himax fun ch => .inr ⟨hsteady.command ch, hsteady.state ch⟩
    refine commandBounded_of hu (by simp [State.imaxEff]) fun ch => ?_
    obtain ⟨_, hcontroller, _⟩ := u.returnRunning_channel ch
    rw [State.command, hcontroller, State.returnRunning_state, State.controllerAfterExit]
    cases (u.channelState ch).running
    · exact .inr ⟨rfl, rfl⟩
    · exact .inl rfl
  | configured hwindow hsteady =>
    refine commandBounded_of_zero fun ch => ?_
    obtain ⟨_, hzero⟩ := h ch
    exact (hsteady.command ch).trans (hzero (none_runs_of_windowOpen hrun hwindow ch))
  | changes ch new => exact commandBounded_change h
  | commands ch i hruns hi => exact commandBounded_command h hruns hi
  | derates θ => exact commandBounded_derate h θ
  | latches ch k => exact commandBounded_latch h ch k
  | clears w =>
    have himax : (s.takeClear w).imaxEff = s.imaxEff := by rw [State.takeClear_eq]; rfl
    refine commandBounded_of h himax fun ch => ?_
    rcases s.takeClear_channel w ch with ⟨hstate, hcommand, _⟩ | ⟨hstate, hcommand, _⟩ <;> rw [hstate, hcommand]
    · exact .inr ⟨rfl, rfl⟩
    · by_cases hf : s.channelState ch = .fault <;> simp [hf]
  | losesSync f hcrank =>
    refine commandBounded_of h (by simp [State.imaxEff]) fun ch => ?_
    obtain ⟨hsequencer, hcontroller⟩ := State.publishSyncLost_channel (s := s.modDecoder f) hcrank ch
    rw [State.command, State.channelState, hsequencer, hcontroller]
    exact syncLost_command _ _
  | resets straps low =>
    refine commandBounded_of_zero fun ch => ?_
    obtain ⟨_, hzero, _⟩ := s.resetWith_channel straps ch
    exact hzero

end CommandBound

/-- Settles O51: every move of a step keeps the rule, where it keeps that of the run conditions too. -/
theorem commandBoundKept : Obligations.CommandBoundKept := fun _ _ hrun hbound hstep =>
  have hkept := (step_moves hstep).keeps
    (P := fun u => RunConditionsHold u ∧ CommandBounded u)
    (fun _ _ hmove h => ⟨runConditionsHold_move hmove h.1, commandBounded_move hmove h.1 h.2⟩) ⟨hrun, hbound⟩
  hkept.2

/-! ### The timers, the sequencers and the sense sequencer (R74, R80, R119, R133, R156) -/

section Clocks

variable {s t : State}

theorem State.setChannelState_timers (s : State) (ch : Channel) (new : ChannelState) :
    (s.setChannelState ch new).timers = s.timers := by
  cases new <;> simp only [State.setChannelState, State.setCommand_zero] <;> (repeat' split) <;> rfl

theorem Sequencer.InRange.withState {q : Sequencer} (h : q.InRange) (new : ChannelState) :
    Sequencer.InRange { q with state := new } := { h with }

theorem Sequencer.InRange.syncLost {q : Sequencer} (h : q.InRange) : q.syncLost.InRange := by
  unfold Sequencer.syncLost
  split
  · exact h
  · exact { h with returnCount := Nat.zero_le _, returnRun := Nat.zero_le _ }
  · exact { h with returnCount := Nat.zero_le _, returnRun := Nat.zero_le _ }
  · exact { h with }
  · exact h

theorem State.blankingFor_started {ch : Channel} {i n : Nat} (hn : s.blankingFor ch i = some n) :
    n = 0 ∨ s.timers.blanking.get ch = some n := by
  unfold State.blankingFor at hn
  split at hn
  · cases hn; exact .inl rfl
  · exact .inr hn

theorem clocksSound_exits (h : s.ClocksSound) : s.returnRunning.ClocksSound := by
  have htimers : s.returnRunning.timers = s.timers := by rw [State.returnRunning_eq]
  refine h.congr (by simp [htimers]) (hsequencers := fun ch hq => ?_)
  obtain ⟨hsequencer, _⟩ := s.returnRunning_channel ch
  rw [hsequencer]
  unfold State.sequencerAfterExit
  split
  · exact { hq with returnCount := Nat.zero_le _, returnRun := Nat.zero_le _ }
  · exact hq

theorem clocksSound_change (h : s.ClocksSound) (ch : Channel) (new : ChannelState) :
    (s.setChannelState ch new).ClocksSound := by
  refine h.congr (by simp [State.setChannelState_timers]) (hsequencers := fun c hq => ?_)
  rw [State.setChannelState_sequencers, Pair.get_set]
  split
  · next hc => exact Sequencer.InRange.withState (hc ▸ hq) new
  · exact hq

theorem clocksSound_command (h : s.ClocksSound) (ch : Channel) (i : Nat) : (s.setCommand ch i).ClocksSound := by
  refine h.congr ?_
  rw [State.setCommand_eq]
  refine Timers.runs_setBlanking _ fun c n hn => ?_
  rw [Pair.get_set] at hn
  split at hn
  · next hc => exact hc ▸ State.blankingFor_started hn
  · exact .inr hn

theorem clocksSound_derate (h : s.ClocksSound) (θ : Int) : (s.evaluateDerate θ).ClocksSound := by
  by_cases hsame : derateAfter s.conditions.derate θ = s.conditions.derate
  · rwa [State.evaluateDerate_of_same s hsame]
  · refine h.congr ?_
    rw [State.evaluateDerate_of_change s hsame, State.limitCommands_computeDuties]
    exact Timers.runs_setBlanking _ fun c n hn => by
      cases c <;> exact State.blankingFor_started (s := s.withDerate θ) hn

theorem clocksSound_latch (h : s.ClocksSound) (ch : Channel) (k : ChannelFault) : (s.latchChannel ch k).ClocksSound := by
  cases hk : (s.faults.channel.get ch).has k with
  | true => rwa [State.latchChannel_of_has hk]
  | false =>
    have heq := State.latchChannel_eq hk
    have htimers := congrArg State.timers heq
    have hsequencers := congrArg State.sequencers heq
    refine h.congr ?_ (hsequencers := fun c hq => ?_)
    · rw [htimers]
      simp only
      split
      · exact Timers.runs_setPulse _ (by simp)
      · exact Timers.runs_refl _
    · rw [hsequencers, Pair.get_set]
      split
      · next hc => exact Sequencer.InRange.withState (hc ▸ hq) .fault
      · exact hq

theorem clocksSound_clear (h : s.ClocksSound) (w : Word16) : (s.takeClear w).ClocksSound := by
  refine h.congr ?_ (hsequencers := fun ch hq => ?_) (hsense := ?_) (hcrank := ?_) (hengine := ?_)
  · rw [State.takeClear_eq]; exact Timers.runs_refl _
  · rw [State.takeClear_eq]
    simp only [Pair.get_replaceWhere]
    split
    · exact { hq with attempts := le_rfl, retryHold := Nat.zero_le _ }
    · exact hq
  · rw [State.takeClear_eq]; exact id
  · rw [State.takeClear_decoder]
    split <;> rfl
  · rw [State.takeClear_eq]

/-- "Sync lost" starts the STATUS timer, with the crank out of CYCLE_SYNC (R156). -/
theorem clocksSound_losesSync (h : s.ClocksSound) {f : Decoder → Decoder}
    (hcrank : (f s.decoder).crank ≠ .cycleSync) : (s.modDecoder f).publishSyncLost.ClocksSound := by
  have heq := State.publishSyncLost_eq (s := s.modDecoder f) hcrank
  have htimers := congrArg State.timers heq
  have hdecoder := congrArg State.decoder heq
  refine { timers := ?_, status := ?_, park := ?_, age := ?_, sequencer := fun ch => ?_, sense := ?_ }
  · rw [htimers]
    exact { h.timers with status := fun c hc => by cases hc; decide }
  · rw [htimers, hdecoder]
    simp [hcrank]
  · rw [htimers]
    simpa using h.park
  · simpa using h.age
  · obtain ⟨hsequencer, _⟩ := State.publishSyncLost_channel (s := s.modDecoder f) hcrank ch
    rw [hsequencer]
    exact (h.sequencer ch).syncLost
  · simpa using h.sense

theorem clocksSound_move (hmove : s.Move t) (h : s.ClocksSound) : t.ClocksSound := by
  cases hmove with
  | steady hsteady | configured _ hsteady => exact hsteady.clocks h
  | exits hsteady => exact clocksSound_exits (hsteady.clocks h)
  | changes ch new => exact clocksSound_change h ch new
  | commands ch i => exact clocksSound_command h ch i
  | derates θ => exact clocksSound_derate h θ
  | latches ch k => exact clocksSound_latch h ch k
  | clears w => exact clocksSound_clear h w
  | losesSync f hcrank => exact clocksSound_losesSync h hcrank
  | resets straps low => exact (s.clocksSound_resetWith straps).congr

end Clocks

/-- Settles O58: every move of a step keeps the items in range and the two timers with what they wait for. -/
theorem timersAndCountsKept : Obligations.TimersAndCountsKept := fun s t htimers hsequencers hsense hstep =>
  (clocksSound_iff t).2
    ((step_moves hstep).keeps (fun _ _ => clocksSound_move) ((clocksSound_iff s).1 ⟨htimers, hsequencers, hsense⟩))

end Sys2Proof.Machine
end

section
/-! PROOF. The sequencers' commands: the cycle reference with the release timeout and the retry hold (O25), the ends of a return
(O26), the engine state (O22) and the PARK pin (O23); and power-on reset (O3). -/

namespace Sys2Proof.Machine

/-! ### One channel at the cycle reference (R84, R85, R90, R95) -/

/-- Two changes of a channel's sequencer are one. -/
theorem State.modSequencer_modSequencer (s : State) (ch : Channel) (f g : Sequencer → Sequencer) :
    (s.modSequencer ch f).modSequencer ch g = s.modSequencer ch fun q => g (f q) := by
  simp [State.modSequencer]

theorem bump_of_le {top n : Nat} (h : top ≤ n + 1) : bump top n = top := min_eq_left h

/-- A release that runs out of time: its count at 8, an attempt consumed, and the hold set (R84). -/
def State.releaseTimedOut (s : State) (ch : Channel) : State :=
  s.modSequencer ch fun q => { q with releaseCount := 8, attempts := q.attempts - 1, retryHold := 2 }

section SequencerTick

variable {s : State} {ch : Channel}

theorem State.releaseTick_of_early (h : (s.sequencers.get ch).releaseCount < 7) :
    s.releaseTick ch = s.modSequencer ch fun q => { q with releaseCount := q.releaseCount + 1 } := by
  have hbump : bump 8 (s.sequencers.get ch).releaseCount = (s.sequencers.get ch).releaseCount + 1 :=
    bump_of_lt (by omega)
  have hcount : (s.sequencers.get ch).releaseCount + 1 ≠ 8 := by omega
  simp [State.releaseTick, hbump, hcount, State.modSequencer]

/-- The eighth cycle reference in RELEASING (R84). -/
theorem State.releaseTick_of_due (h : 7 ≤ (s.sequencers.get ch).releaseCount) :
    s.releaseTick ch =
      if (s.sequencers.get ch).attempts ≤ 1 then (s.releaseTimedOut ch).latchChannel ch .lockStuck
      else (s.releaseTimedOut ch).setChannelState ch .parked := by
  have hbump : bump 8 (s.sequencers.get ch).releaseCount = 8 := bump_of_le (by omega)
  have hattempts : ((s.releaseTimedOut ch).sequencers.get ch).attempts = 0 ↔ (s.sequencers.get ch).attempts ≤ 1 := by
    simp only [State.releaseTimedOut, State.modSequencer, Pair.get_set_same]
    omega
  simp only [State.releaseTick, hbump, if_true, State.modSequencer_modSequencer]
  exact if_congr hattempts rfl rfl

theorem State.returnTick_of_early (h : (s.sequencers.get ch).returnCount < 59) :
    s.returnTick ch = s.modSequencer ch fun q => { q with returnCount := q.returnCount + 1 } := by
  have hbump : bump 60 (s.sequencers.get ch).returnCount = (s.sequencers.get ch).returnCount + 1 :=
    bump_of_lt (by omega)
  have hcount : (s.sequencers.get ch).returnCount + 1 ≠ 60 := by omega
  simp [State.returnTick, hbump, hcount, State.modSequencer]

/-- The sixtieth cycle reference in RETURNING (R90). -/
theorem State.returnTick_of_due (h : 59 ≤ (s.sequencers.get ch).returnCount) :
    s.returnTick ch = (s.modSequencer ch fun q => { q with returnCount := 60 }).latchChannel ch .noReturn := by
  simp [State.returnTick, bump_of_le (show 60 ≤ (s.sequencers.get ch).returnCount + 1 by omega)]

theorem State.sequencerTick_of_parked (h : s.channelState ch = .parked) :
    s.sequencerTick ch = if (s.sequencers.get ch).retryHold = 0 then s else s.retryTick ch := by
  have hticked : (s.retryTick ch).channelState ch = .parked := by simpa [State.retryTick, State.channelState] using h
  rcases Nat.eq_zero_or_pos (s.sequencers.get ch).retryHold with hzero | hpos
  · simp [State.sequencerTick, h, hzero]
  · simp [State.sequencerTick, h, hpos, hpos.ne', hticked]

/-- A channel that leaves RELEASING at its tick goes to PARKED or FAULT, and has no further tick (R84, R95). -/
theorem State.releaseTick_not_returning (h : s.channelState ch = .releasing) :
    (s.releaseTick ch).channelState ch ≠ .returning := by
  rcases Nat.lt_or_ge (s.sequencers.get ch).releaseCount 7 with hearly | hdue
  · rw [State.releaseTick_of_early hearly]
    simpa [State.channelState] using fun hr => by simp [State.channelState, hr] at h
  · have hstate : (s.releaseTimedOut ch).channelState ch = .releasing := by
      simpa [State.releaseTimedOut, State.channelState] using h
    rw [State.releaseTick_of_due hdue]
    split
    · rw [State.latchChannel_state]
      split <;> simp [hstate]
    · simp [State.setChannelState_state]

theorem State.sequencerTick_of_releasing (h : s.channelState ch = .releasing) :
    s.sequencerTick ch = s.releaseTick ch := by
  simp [State.sequencerTick, h, State.releaseTick_not_returning h]

theorem State.sequencerTick_of_returning (h : s.channelState ch = .returning) :
    s.sequencerTick ch = s.returnTick ch := by
  simp [State.sequencerTick, h]

theorem State.sequencerTick_of_other (h : s.channelState ch = .tracking ∨ s.channelState ch = .fault) :
    s.sequencerTick ch = s := by
  rcases h with h | h <;> simp [State.sequencerTick, h]

end SequencerTick

/-- The engine age at the cycle reference (R79). -/
theorem State.engineAging_eq (s : State) :
    s.engineAging =
      if s.engine.age = 8 ∧ s.engine.engine = .running then
        (s.modEngine fun e => { e with age := min 255 (e.age + 1) }).returnRunning
      else s.modEngine fun e => { e with age := min 255 (e.age + 1) } := by
  have hage : bump 255 s.engine.age = 9 ↔ s.engine.age = 8 := by unfold bump; omega
  exact if_congr (and_congr hage Iff.rfl) rfl rfl

/-- Settles O25: the block by its two parts, one channel by its state, and the two commands as those ticks. -/
theorem releaseTimeoutAndHold : Obligations.ReleaseTimeoutAndHold := by
  intro ch s q timedOut aged stale
  have htimeout : 7 ≤ q.releaseCount → s.releaseTick ch =
      if q.attempts ≤ 1 then timedOut.latchChannel ch .lockStuck else timedOut.setChannelState ch .parked :=
    State.releaseTick_of_due
  have hparks : 7 ≤ q.releaseCount → 2 ≤ q.attempts → s.releaseTick ch = timedOut.setChannelState ch .parked :=
    fun hdue hleft => (htimeout hdue).trans (if_neg (by omega))
  have hlatches : 7 ≤ q.releaseCount → q.attempts ≤ 1 → s.releaseTick ch = timedOut.latchChannel ch .lockStuck :=
    fun hdue hlast => (htimeout hdue).trans (if_pos hlast)
  refine ⟨?_, State.sequencerTick_of_parked, fun hstate => ?_, fun hstate => ?_, State.sequencerTick_of_other,
    fun hsupply hcrank => ⟨fun hstate hdue hleft => ?_, fun hstate hdue hlast => ?_, fun hstate hhold => ?_⟩⟩
  · rw [State.sequencerCycleReference, State.eachChannel_def, State.engineAging_eq]
  · rw [State.sequencerTick_of_releasing hstate]
    exact ⟨State.releaseTick_of_early, hparks, hlatches⟩
  · rw [State.sequencerTick_of_returning hstate]
    exact ⟨State.returnTick_of_early, State.returnTick_of_due⟩
  · simp only [exec, execReleaseTimeout, act_of_live hsupply]
    rw [if_pos ⟨hcrank, hstate, bump_of_le (by simpa [q] using hdue)⟩, hparks hdue hleft]
  · simp only [exec, execReleaseTimeout, act_of_live hsupply]
    rw [if_pos ⟨hcrank, hstate, bump_of_le (by simpa [q] using hdue)⟩, hlatches hdue hlast]
  · have hold : (s.sequencers.get ch).retryHold = 1 := hhold
    simp [exec, execRetryHoldExpiry, act_of_live hsupply, hcrank, hstate, hold, State.retryTick, State.modSequencer]

/-! ### The ends of a return (R89, R90) -/

theorem State.returnProgress_of_third {s : State} {ch : Channel} {phase : Int} (hnear : nearPark phase = true)
    (hrun : 2 ≤ (s.sequencers.get ch).returnRun) :
    s.returnProgress ch phase = (s.modSequencer ch fun q => { q with returnRun := 3 }).setChannelState ch .parked := by
  simp [State.returnProgress, hnear, bump_of_le (show 3 ≤ (s.sequencers.get ch).returnRun + 1 by omega)]

/-- Settles O26: the two commands are the steps that bring the run to 3 and the count to 60. -/
theorem returnEnds : Obligations.ReturnEnds := by
  intro ch phase s hsupply hstate
  refine ⟨fun hestimate hlo hhi hrun => ?_, fun hcrank hcount => ?_⟩
  · have hnear : nearPark phase = true := by simp [nearPark, hlo, hhi]
    have hbump : bump 3 (s.sequencers.get ch).returnRun = 3 := bump_of_le (by omega)
    simp only [exec, execReturnArrival, act_of_live hsupply, hestimate, hstate, hnear, hbump, and_self, if_true,
      State.returnProgress_of_third hnear hrun]
  · have hbump : bump 60 (s.sequencers.get ch).returnCount = 60 := bump_of_le (by omega)
    simp only [exec, execNoReturn, act_of_live hsupply, hcrank, hstate, hbump, and_self, if_true,
      State.returnTick_of_due hcount]

/-! ### The engine state (R78, R79) -/

/-- An accepted ENGINE frame of another station (R78, R150). -/
theorem exec_engine_of_accepted {h : Header} {code : Word16} {s : State} (hears : Safety.Hears s)
    (hsource : h.source ≠ s.straps.address) (hdest : h.addressed = false ∨ h.dest = s.straps.address) :
    exec (.engine h code) s = .next ((s.atBitRead fun l => l.endFrame.countGood).engineArrival code) := by
  obtain ⟨hsupply, hfree, hidle⟩ := hears
  have haccepted : accepted s.straps.address { cls := 2, header := h, payload := [code] } = true := by
    simpa [accepted] using hdest
  simp only [exec, execEngine, act_of_live hsupply]
  rw [State.receive_of_accepted ((Link.hears_iff _).2 ⟨hfree, hidle⟩) hsource haccepted, State.deliver_engine]

theorem State.engineArrival_eq (s : State) (code : Word16) :
    s.engineArrival code =
      if code = 0x0002 then s.modEngine fun e => { e with engine := .running, age := 0 }
      else (s.modEngine fun e => { e with engine := .stopped, age := 0 }).returnRunning := by
  unfold State.engineArrival readEngineState
  split <;> rfl

/-- Settles O22: the arrival by its code, and the staleness as the sequencer block's own step. -/
theorem engineStateCommands : Obligations.EngineStateCommands := by
  intro h code s read
  refine ⟨fun hears hsource hdest => ?_, fun hsupply hcrank hengine hage => ?_⟩
  · rw [exec_engine_of_accepted hears hsource hdest, State.engineArrival_eq]
    exact ⟨fun hcode => by rw [if_pos hcode]; rfl, fun hcode => by rw [if_neg hcode]; rfl⟩
  · have hbump : bump 255 s.engine.age = 9 := by rw [hage]; rfl
    simp only [exec, execEngineStateStale, act_of_live hsupply]
    rw [if_pos ⟨hcrank, hbump, hengine⟩, State.engineAging_eq, if_pos ⟨hage, hengine⟩]
    simp [State.modEngine, hage]

/-! ### The PARK pin (R80) -/

theorem PinLevel.other_eq (pin : PinLevel) : pin.other = if pin = .high then .low else .high := by cases pin <;> rfl

/-- A high pin asks for the request (R80). -/
theorem eq_recognisedLevel_iff (pin : PinLevel) (requested : Bool) :
    pin = recognisedLevel requested ↔ (pin = .high ↔ requested = true) := by
  cases pin <;> cases requested <;> decide

theorem exec_parkRequestRecognised_of_running {s : State} (hsupply : s.supplyLow = false) {n : Nat}
    (hpark : s.timers.park = some n) :
    exec .parkRequestRecognised s =
      .next
        (let passed := (s.elapse (10000 - n)).modTimers fun t => { t with park := none }
        let requested := decide (s.engine.parkPin = .high)
        let u := passed.modEngine fun e => { e with parkRequest := requested }
        if requested then u.returnRunning else u) := by
  have hpin : ∀ k f, ((s.elapse k).modTimers f).engine.parkPin = s.engine.parkPin := fun k f => by simp
  simp only [exec, execParkRequestRecognised, act_of_live hsupply, hpark, hpin]
  rfl

/-- Settles O23: the pin's change as it is, and the recognition by the level that the pin has. -/
theorem parkPinCommands : Obligations.ParkPinCommands := by
  intro s hsupply
  refine ⟨fun pin hpin => ?_, fun hstopped => ?_, fun n hpark => ?_⟩
  · have hother : s.engine.parkPin.other = pin := (PinLevel.other_eq _).trans hpin.symm
    simp [exec, execParkPinChange, hother, State.modEngine, State.modTimers, eq_recognisedLevel_iff]
  · simp [exec, execParkRequestRecognised, act_of_live hsupply, hstopped]
  · rw [exec_parkRequestRecognised_of_running hsupply hpark]
    exact ⟨fun hhigh => by simp [hhigh], fun hlow => by simp [hlow]⟩

/-! ### Power-on reset (R167, R174) -/

theorem sampleStraps_eq (pins : StrapPins) :
    sampleStraps pins =
      { address :=
          BitVec.ofBool (decide (pins.addr2 = .high)) ++ BitVec.ofBool (decide (pins.addr1 = .high)) ++
            BitVec.ofBool (decide (pins.addr0 = .high))
        role := if pins.role = .low then .front else .rear
        faultLine := if pins.fltmode = .low then .level else .pulse } := by
  obtain ⟨addr2, addr1, addr0, role, fltmode⟩ := pins
  have haddress : ∀ a b c : PinLevel,
      BitVec.ofNat 3 (4 * pinBit a + 2 * pinBit b + pinBit c) =
        BitVec.ofBool (decide (a = .high)) ++ BitVec.ofBool (decide (b = .high)) ++
          BitVec.ofBool (decide (c = .high)) := by
    intro a b c
    cases a <;> cases b <;> cases c <;> decide
  rw [sampleStraps, haddress]
  cases role <;> cases fltmode <;> rfl

/-- While VDD is low every command but the supply's and the PARK pin's is held (R174). -/
theorem exec_of_low {s : State} (hlow : s.supplyLow = true) {c : Instr} (hreset : ∀ edge pins, c ≠ .powerOnReset edge pins)
    (hpin : c ≠ .parkPinChange) : exec c s = .next s := by
  cases c with
  | powerOnReset edge pins => exact absurd rfl (hreset edge pins)
  | parkPinChange => exact absurd rfl hpin
  | _ => exact congrArg Host.Outcome.next (if_pos hlow)

/-- Settles O3: each crossing by the reset it gives, and what power-on reset holds. -/
theorem powerOnResetEffect : Obligations.PowerOnResetEffect := by
  intro s fresh
  refine ⟨fun pins hlow => ?_, fun pins hlive => ?_, fun pins => rfl, fun hlow => ⟨fun c => exec_of_low hlow, ?_⟩⟩
  · rw [← sampleStraps_eq]
    simp only [exec, execPowerOnReset, hlow, if_true]
    rfl
  · simp [exec, execPowerOnReset, hlive]
  · rw [← PinLevel.other_eq]
    exact ⟨_, rfl⟩

end Sys2Proof.Machine
end

section
/-! PROOF. The supply's and the die temperature's samples (O34): what the under-voltage cut, the derate and the thermal cut leave of
each channel's controller and driver, and of the rest of the state (R127 to R129, R139, R140). -/

namespace Sys2Proof.Machine

/-! ### A driver whose duty is computed anew (R120, R121) -/

/-- One driver follows from another by its duty and flag alone, with its output on only where it was on. -/
structure Driver.Reduced (d e : Driver) : Prop where
  items : e = { d with duty := e.duty, saturated := e.saturated, output := e.output }
  output : e.output = true → d.output = true

theorem Driver.reduced_refl (d : Driver) : d.Reduced d := ⟨rfl, id⟩

theorem Driver.reduced_refresh (d : Driver) (duty : Nat → Bool → Nat × Bool) : d.Reduced (d.refresh duty) :=
  ⟨rfl, Driver.refresh_output⟩

/-- A state's driver stands as its command and its cuts have it, computed from the driver `d` that was cut or not before; its
output goes off at a duty of 0 only. -/
def Driver.ComputedIn (d : Driver) (cut : Bool) (t : State) (ch : Channel) : Prop :=
  ((t.drivers.get ch).duty, (t.drivers.get ch).saturated) =
      dutyOf (t.command ch) d.rEst (t.driverCut ch) t.sense.supply ∧
    ((t.drivers.get ch).output = true → d.output = true ∧ (t.drivers.get ch).duty ≠ 0) ∧
    (cut = false → d.output = true → (t.drivers.get ch).duty ≠ 0 → (t.drivers.get ch).output = true) ∧
    t.drivers.get ch =
      { d with
        duty := (t.drivers.get ch).duty
        saturated := (t.drivers.get ch).saturated
        output := (t.drivers.get ch).output }

/-- A state's driver is what its own command and cuts make of the driver `e`. -/
def State.RefreshedFrom (t : State) (ch : Channel) (e : Driver) : Prop :=
  t.drivers.get ch = e.refresh (t.dutyFor (t.command ch))

section Refreshed

variable {s t : State} {ch : Channel} {d e : Driver} {cut : Bool}

theorem Driver.computedIn_of_refreshedFrom (hreduced : d.Reduced e) (ht : t.RefreshedFrom ch e)
    (hstays : cut = false → d.output = true → (t.drivers.get ch).duty ≠ 0 → e.output = true) :
    d.ComputedIn cut t ch := by
  have hrEst : e.rEst = d.rEst := by rw [hreduced.items]
  have htrip : e.trip = d.trip := by rw [hreduced.items]
  have hcut : t.driverCut ch = (d.trip || t.conditions.underVoltage || t.conditions.thermalCut) := by
    rw [State.driverCut, ht, ← htrip]
    rfl
  have hduty : ((t.drivers.get ch).duty, (t.drivers.get ch).saturated) =
      dutyOf (t.command ch) d.rEst (t.driverCut ch) t.sense.supply := by
    rw [hcut, ht, ← hrEst, ← htrip]
    rfl
  have houtput : (t.drivers.get ch).output = (e.output && decide ((t.drivers.get ch).duty ≠ 0)) := by
    rw [ht]
    rfl
  refine ⟨hduty, fun hon => ?_, fun hlive hon hpos => ?_, ?_⟩
  · obtain ⟨hbefore, hpos⟩ := Bool.and_eq_true_iff.1 (houtput.symm.trans hon)
    exact ⟨hreduced.output hbefore, of_decide_eq_true hpos⟩
  · rw [houtput, hstays hlive hon hpos, decide_eq_true hpos]
    rfl
  · rw [ht, hreduced.items]
    rfl

theorem Driver.computedIn_of_refreshedFrom_self (ht : t.RefreshedFrom ch d) : d.ComputedIn cut t ch :=
  Driver.computedIn_of_refreshedFrom d.reduced_refl ht fun _ hon _ => hon

theorem State.duty_of_refreshedFrom_cut (ht : t.RefreshedFrom ch e) (hcut : t.driverCut ch = true) :
    (t.drivers.get ch).duty = 0 := by
  have htrip : (t.drivers.get ch).trip = e.trip := by rw [ht]; rfl
  have hcuts : (e.trip || t.conditions.underVoltage || t.conditions.thermalCut) = true := by
    rw [← htrip]
    exact hcut
  rw [ht]
  exact congrArg Prod.fst ((dutyOf_spec _ _ _ _).2 (.inr hcuts))

theorem State.computeDuties_refreshedFrom (s : State) (ch : Channel) : s.computeDuties.RefreshedFrom ch (s.drivers.get ch) := by
  cases ch <;> rfl

/-- The exits keep the drivers computed: a running channel's command becomes 0 and its driver goes off, any other stands. -/
theorem State.returnRunning_refreshedFrom (h : s.RefreshedFrom ch e) : s.returnRunning.RefreshedFrom ch e := by
  obtain ⟨_, hcontroller, hdriver, _⟩ := s.returnRunning_channel ch
  have hduties : s.returnRunning.dutyFor = s.dutyFor := by rw [State.returnRunning_eq]; rfl
  rw [State.RefreshedFrom, hduties, hdriver, State.driverAfterExit, State.command, hcontroller, State.controllerAfterExit]
  cases (s.channelState ch).running
  · exact h
  · rw [if_pos rfl, if_pos rfl, State.dutyFor, Driver.refresh_zero, h]
    rfl

end Refreshed

/-! ### The exits after a cut (R77) -/

/-- The exits reach neither the timers nor the meters. -/
@[simp] theorem State.returnRunning_timers_meters (s : State) :
    s.returnRunning.timers = s.timers ∧ s.returnRunning.meters = s.meters := by
  rw [State.returnRunning_eq]
  exact ⟨rfl, rfl⟩

section SameChannels

variable {s t : State} (hsequencers : t.sequencers = s.sequencers)
include hsequencers

theorem State.channelState_congr (ch : Channel) : t.channelState ch = s.channelState ch := by
  rw [State.channelState, hsequencers]
  rfl

/-- What the exits make of the sequencers and the target depends on these and the crank alone. -/
theorem State.returnRunning_congr (hdecoder : t.decoder = s.decoder) (htarget : t.target = s.target) :
    t.returnRunning.sequencers = s.returnRunning.sequencers ∧ t.returnRunning.target = s.returnRunning.target := by
  have hsequencer : ∀ ch, t.sequencerAfterExit ch = s.sequencerAfterExit ch := fun ch => by
    rw [State.sequencerAfterExit, State.channelState_congr hsequencers, hsequencers, hdecoder]
    rfl
  have heffective : ∀ ch, t.effectiveAfterExit ch = s.effectiveAfterExit ch := fun ch => by
    rw [State.effectiveAfterExit, State.channelState_congr hsequencers, htarget]
    rfl
  simp only [State.returnRunning_eq, hsequencer, heffective, htarget, and_self]

theorem State.returnRunning_controllers_congr (hcontrollers : t.controllers = s.controllers) :
    t.returnRunning.controllers = s.returnRunning.controllers := by
  have hcontroller : ∀ ch, t.controllerAfterExit ch = s.controllerAfterExit ch := fun ch => by
    rw [State.controllerAfterExit, State.channelState_congr hsequencers, hcontrollers]
    rfl
  simp only [State.returnRunning_eq, hcontroller]

end SameChannels

/-! ### The under-voltage cut (R127) -/

section Supply

variable (s : State) (v : Int)

/-- The state with its under-voltage cut evaluated and both duties computed anew, before the exits. -/
def State.supplied : State :=
  (s.modConditions fun c => { c with underVoltage := underVoltageAfter s.conditions.underVoltage v }).computeDuties

theorem State.evaluateSupply_eq :
    s.evaluateSupply v =
      if underVoltageAfter s.conditions.underVoltage v = true ∧ s.conditions.underVoltage = false then
        (s.supplied v).returnRunning
      else s.supplied v :=
  if_congr (by simp) rfl rfl

theorem State.evaluateSupply_conditions :
    (s.evaluateSupply v).conditions =
      { s.conditions with underVoltage := underVoltageAfter s.conditions.underVoltage v } := by
  rw [State.evaluateSupply_eq]
  split <;> simp [State.supplied]

theorem State.evaluateSupply_kept :
    (s.evaluateSupply v).timers = s.timers ∧ (s.evaluateSupply v).meters = s.meters := by
  rw [State.evaluateSupply_eq]
  split <;> simp [State.supplied]

theorem State.evaluateSupply_computedIn (ch : Channel) (cut : Bool) :
    (s.drivers.get ch).ComputedIn cut (s.evaluateSupply v) ch := by
  have hsupplied : (s.supplied v).RefreshedFrom ch (s.drivers.get ch) := State.computeDuties_refreshedFrom _ ch
  apply Driver.computedIn_of_refreshedFrom_self
  rw [State.evaluateSupply_eq]
  split
  · exact State.returnRunning_refreshedFrom hsupplied
  · exact hsupplied

/-- The supply's response, item by item: the exits of a cut that sets, else what stood. -/
theorem State.evaluateSupply_items :
    (underVoltageAfter s.conditions.underVoltage v = true → s.conditions.underVoltage = false →
      (∀ ch, ((s.evaluateSupply v).channelState ch).running = false) ∧
        (s.evaluateSupply v).sequencers = s.returnRunning.sequencers ∧
        (s.evaluateSupply v).target = s.returnRunning.target ∧
        (s.evaluateSupply v).controllers = s.returnRunning.controllers) ∧
      (¬(underVoltageAfter s.conditions.underVoltage v = true ∧ s.conditions.underVoltage = false) →
        (s.evaluateSupply v).sequencers = s.sequencers ∧ (s.evaluateSupply v).controllers = s.controllers ∧
          (s.evaluateSupply v).target = s.target) := by
  rw [State.evaluateSupply_eq]
  refine ⟨fun hset hbefore => ?_, fun hstands => ?_⟩
  · have hsequencers : (s.supplied v).sequencers = s.sequencers := by simp [State.supplied]
    obtain ⟨hexits, htarget⟩ := State.returnRunning_congr (s := s) (t := s.supplied v) hsequencers
      (by simp [State.supplied]) (by simp [State.supplied])
    rw [if_pos ⟨hset, hbefore⟩]
    exact ⟨State.returnRunning_none_runs _, hexits, htarget,
      State.returnRunning_controllers_congr hsequencers (by simp [State.supplied])⟩
  · rw [if_neg hstands]
    simp [State.supplied]

end Supply

/-! ### The derate (R106, R128) -/

section Temperature

variable (s : State) (θ : Int)

/-- A channel's command after the derate is evaluated: where it changes, the command under the limit in force. -/
def State.deratedCommand (ch : Channel) : Nat :=
  if derateAfter s.conditions.derate θ = s.conditions.derate then s.command ch else (s.withDerate θ).limitedCommand ch

theorem State.evaluateDerate_controller (ch : Channel) :
    (s.evaluateDerate θ).controllers.get ch = { s.controllers.get ch with command := s.deratedCommand θ ch } := by
  unfold State.deratedCommand
  split
  case isTrue hsame => rw [State.evaluateDerate_of_same s hsame]; rfl
  case isFalse hchange =>
    obtain ⟨hcontroller, _, _⟩ := (s.withDerate θ).limitCommands_channel ch
    rw [State.evaluateDerate_of_change s hchange, hcontroller]
    rfl

theorem State.evaluateDerate_blanking (ch : Channel) :
    (s.evaluateDerate θ).timers.blanking.get ch = s.blankingFor ch (s.deratedCommand θ ch) := by
  unfold State.deratedCommand
  split
  case isTrue hsame => rw [State.evaluateDerate_of_same s hsame, State.blankingFor_same]
  case isFalse hchange =>
    obtain ⟨_, hblanking, _⟩ := (s.withDerate θ).limitCommands_channel ch
    rw [State.evaluateDerate_of_change s hchange, hblanking]
    rfl

/-- Of the timers the derate reaches the blanking alone. -/
theorem State.evaluateDerate_timers :
    (s.evaluateDerate θ).timers = { s.timers with blanking := (s.evaluateDerate θ).timers.blanking } := by
  by_cases hsame : derateAfter s.conditions.derate θ = s.conditions.derate
  · rw [State.evaluateDerate_of_same s hsame]
  · rw [State.evaluateDerate_of_change s hsame, State.limitCommands_computeDuties]
    rfl

variable {s θ} in
theorem State.evaluateDerate_refreshedFrom (h : derateAfter s.conditions.derate θ ≠ s.conditions.derate) (ch : Channel) :
    (s.evaluateDerate θ).RefreshedFrom ch (s.drivers.get ch) := by
  rw [State.evaluateDerate_of_change s h]
  obtain ⟨hcontroller, _, hdriver⟩ := (s.withDerate θ).limitCommands_channel ch
  rw [State.RefreshedFrom, hdriver, State.command, hcontroller, State.limitCommands_computeDuties]
  rfl

theorem State.evaluateDerate_reduced (ch : Channel) :
    (s.drivers.get ch).Reduced ((s.evaluateDerate θ).drivers.get ch) := by
  by_cases hsame : derateAfter s.conditions.derate θ = s.conditions.derate
  · rw [State.evaluateDerate_of_same s hsame]
    exact Driver.reduced_refl _
  · rw [State.evaluateDerate_refreshedFrom hsame ch]
    exact Driver.reduced_refresh _ _

/-! ### The thermal cut (R129) -/

/-- The state with its thermal cut evaluated and both duties computed anew, before the exits. -/
def State.withThermalCut : State :=
  (s.modConditions fun c => { c with thermalCut := thermalCutAfter s.conditions.thermalCut θ }).computeDuties

variable {s θ}

theorem State.evaluateThermalCut_of_same (h : thermalCutAfter s.conditions.thermalCut θ = s.conditions.thermalCut) :
    s.evaluateThermalCut θ = s := by
  simp [State.evaluateThermalCut, h]

theorem State.evaluateThermalCut_of_rise (hset : thermalCutAfter s.conditions.thermalCut θ = true)
    (hbefore : s.conditions.thermalCut = false) : s.evaluateThermalCut θ = (s.withThermalCut θ).returnRunning := by
  simp [State.evaluateThermalCut, State.withThermalCut, hbefore, hbefore ▸ hset]

theorem State.evaluateThermalCut_of_fall (hclear : thermalCutAfter s.conditions.thermalCut θ = false)
    (hbefore : s.conditions.thermalCut = true) : s.evaluateThermalCut θ = s.withThermalCut θ := by
  simp [State.evaluateThermalCut, State.withThermalCut, hbefore, hbefore ▸ hclear]

variable (s θ)

theorem State.evaluateThermalCut_cases :
    (thermalCutAfter s.conditions.thermalCut θ = s.conditions.thermalCut ∧ s.evaluateThermalCut θ = s) ∨
      (thermalCutAfter s.conditions.thermalCut θ = true ∧ s.conditions.thermalCut = false ∧
        s.evaluateThermalCut θ = (s.withThermalCut θ).returnRunning) ∨
      (thermalCutAfter s.conditions.thermalCut θ = false ∧ s.conditions.thermalCut = true ∧
        s.evaluateThermalCut θ = s.withThermalCut θ) := by
  cases hnew : thermalCutAfter s.conditions.thermalCut θ <;> cases hold : s.conditions.thermalCut
  · exact .inl ⟨rfl, State.evaluateThermalCut_of_same (hnew.trans hold.symm)⟩
  · exact .inr (.inr ⟨rfl, rfl, State.evaluateThermalCut_of_fall hnew hold⟩)
  · exact .inr (.inl ⟨rfl, rfl, State.evaluateThermalCut_of_rise hnew hold⟩)
  · exact .inl ⟨rfl, State.evaluateThermalCut_of_same (hnew.trans hold.symm)⟩

theorem State.evaluateThermalCut_conditions :
    (s.evaluateThermalCut θ).conditions =
      { s.conditions with thermalCut := thermalCutAfter s.conditions.thermalCut θ } := by
  rcases s.evaluateThermalCut_cases θ with ⟨hsame, heq⟩ | ⟨_, _, heq⟩ | ⟨_, _, heq⟩
  · rw [heq, hsame]
  · simp [heq, State.withThermalCut]
  · simp [heq, State.withThermalCut]

theorem State.evaluateThermalCut_kept :
    (s.evaluateThermalCut θ).timers = s.timers ∧ (s.evaluateThermalCut θ).meters = s.meters := by
  rcases s.evaluateThermalCut_cases θ with ⟨_, heq⟩ | ⟨_, _, heq⟩ | ⟨_, _, heq⟩ <;> simp [heq, State.withThermalCut]

/-- But for the exits of a cut that sets, sequencers, target and controllers stand. -/
theorem State.evaluateThermalCut_items
    (h : ¬(thermalCutAfter s.conditions.thermalCut θ = true ∧ s.conditions.thermalCut = false)) :
    (s.evaluateThermalCut θ).sequencers = s.sequencers ∧ (s.evaluateThermalCut θ).target = s.target ∧
      (s.evaluateThermalCut θ).controllers = s.controllers := by
  rcases s.evaluateThermalCut_cases θ with ⟨_, heq⟩ | ⟨hset, hbefore, _⟩ | ⟨_, _, heq⟩
  · simp [heq]
  · exact absurd ⟨hset, hbefore⟩ h
  · simp [heq, State.withThermalCut]

variable {s θ} in
theorem State.evaluateThermalCut_refreshedFrom
    (h : thermalCutAfter s.conditions.thermalCut θ ≠ s.conditions.thermalCut) (ch : Channel) :
    (s.evaluateThermalCut θ).RefreshedFrom ch (s.drivers.get ch) := by
  have hcut : (s.withThermalCut θ).RefreshedFrom ch (s.drivers.get ch) := State.computeDuties_refreshedFrom _ ch
  rcases s.evaluateThermalCut_cases θ with ⟨hsame, _⟩ | ⟨_, _, heq⟩ | ⟨_, _, heq⟩
  · exact absurd hsame h
  · rw [heq]
    exact State.returnRunning_refreshedFrom hcut
  · rwa [heq]

/-! ### The die temperature's evaluation (R140) -/

/-- The driver block at a completed TDIE sample. -/
def State.evaluateTemperature : State := (s.evaluateDerate θ).evaluateThermalCut θ

theorem State.evaluateDerate_thermalCut : (s.evaluateDerate θ).conditions.thermalCut = s.conditions.thermalCut := by
  rw [State.evaluateDerate_conditions]

theorem State.evaluateTemperature_conditions :
    (s.evaluateTemperature θ).conditions =
      { s.conditions with
        derate := derateAfter s.conditions.derate θ
        thermalCut := thermalCutAfter s.conditions.thermalCut θ } := by
  rw [State.evaluateTemperature, State.evaluateThermalCut_conditions, State.evaluateDerate_conditions]

variable {s θ}

theorem State.evaluateTemperature_drivers_of_same (hderate : derateAfter s.conditions.derate θ = s.conditions.derate)
    (hcut : thermalCutAfter s.conditions.thermalCut θ = s.conditions.thermalCut) :
    (s.evaluateTemperature θ).drivers = s.drivers := by
  rw [State.evaluateTemperature, State.evaluateDerate_of_same s hderate, State.evaluateThermalCut_of_same hcut]

/-- A change of either condition leaves the duties computed. The cut's change decides the output by itself: a cut that sets leaves
a duty of 0, and one that clears was in force before. -/
theorem State.evaluateTemperature_computedIn
    (h : derateAfter s.conditions.derate θ ≠ s.conditions.derate ∨
      thermalCutAfter s.conditions.thermalCut θ ≠ s.conditions.thermalCut) (ch : Channel) :
    (s.drivers.get ch).ComputedIn (s.driverCut ch) (s.evaluateTemperature θ) ch := by
  have hthermal := s.evaluateDerate_thermalCut θ
  by_cases hcut : thermalCutAfter s.conditions.thermalCut θ = s.conditions.thermalCut
  · rw [State.evaluateTemperature, State.evaluateThermalCut_of_same (by rw [hthermal, hcut])]
    exact Driver.computedIn_of_refreshedFrom_self
      (State.evaluateDerate_refreshedFrom (h.resolve_right (not_not_intro hcut)) ch)
  · have ht : (s.evaluateTemperature θ).RefreshedFrom ch ((s.evaluateDerate θ).drivers.get ch) :=
      State.evaluateThermalCut_refreshedFrom (by rwa [hthermal]) ch
    refine Driver.computedIn_of_refreshedFrom (s.evaluateDerate_reduced θ ch) ht fun hlive _ hpos => ?_
    have hbefore : s.conditions.thermalCut = false := by
      simp only [State.driverCut, Bool.or_eq_false_iff] at hlive
      exact hlive.2
    have hset : thermalCutAfter s.conditions.thermalCut θ = true := by simpa [hbefore] using hcut
    have hnow : (s.evaluateTemperature θ).driverCut ch = true := by
      simp [State.driverCut, State.evaluateTemperature_conditions, hset]
    exact absurd (State.duty_of_refreshedFrom_cut ht hnow) hpos

/-- The temperature's response, item by item: the exits of a cut that sets, else what stood, with the command the derate leaves. -/
theorem State.evaluateTemperature_items (s : State) (θ : Int) :
    (thermalCutAfter s.conditions.thermalCut θ = true → s.conditions.thermalCut = false →
      (∀ ch, ((s.evaluateTemperature θ).channelState ch).running = false) ∧
        (s.evaluateTemperature θ).sequencers = s.returnRunning.sequencers ∧
        (s.evaluateTemperature θ).target = s.returnRunning.target ∧
        ∀ ch, (s.evaluateTemperature θ).controllers.get ch =
          { s.controllers.get ch with
            command := if (s.channelState ch).running = true then 0 else s.deratedCommand θ ch }) ∧
      (¬(thermalCutAfter s.conditions.thermalCut θ = true ∧ s.conditions.thermalCut = false) →
        (s.evaluateTemperature θ).sequencers = s.sequencers ∧ (s.evaluateTemperature θ).target = s.target ∧
          ∀ ch, (s.evaluateTemperature θ).controllers.get ch =
            { s.controllers.get ch with command := s.deratedCommand θ ch }) := by
  have hthermal := s.evaluateDerate_thermalCut θ
  refine ⟨fun hset hbefore => ?_, fun hstands => ?_⟩
  · have hsequencers : ((s.evaluateDerate θ).withThermalCut θ).sequencers = s.sequencers := by
      simp [State.withThermalCut]
    obtain ⟨hexits, htarget⟩ := State.returnRunning_congr (s := s) (t := (s.evaluateDerate θ).withThermalCut θ) hsequencers
      (by simp [State.withThermalCut]) (by simp [State.withThermalCut])
    rw [State.evaluateTemperature, State.evaluateThermalCut_of_rise (by rwa [hthermal]) (by rwa [hthermal])]
    refine ⟨State.returnRunning_none_runs _, hexits, htarget, fun ch => ?_⟩
    obtain ⟨_, hcontroller, _⟩ := ((s.evaluateDerate θ).withThermalCut θ).returnRunning_channel ch
    have hcut : ((s.evaluateDerate θ).withThermalCut θ).controllers.get ch =
        { s.controllers.get ch with command := s.deratedCommand θ ch } := by
      simp [State.withThermalCut, State.evaluateDerate_controller]
    rw [hcontroller, State.controllerAfterExit, State.channelState_congr hsequencers, hcut]
    split <;> rfl
  · obtain ⟨hsequencers, htarget, hcontrollers⟩ := (s.evaluateDerate θ).evaluateThermalCut_items θ (by rwa [hthermal])
    refine ⟨by simp [State.evaluateTemperature, hsequencers], by simp [State.evaluateTemperature, htarget], fun ch => ?_⟩
    rw [State.evaluateTemperature, hcontrollers, State.evaluateDerate_controller]

theorem State.evaluateTemperature_timers (s : State) (θ : Int) :
    (∀ ch, (s.evaluateTemperature θ).timers.blanking.get ch = s.blankingFor ch (s.deratedCommand θ ch)) ∧
      (s.evaluateTemperature θ).timers = { s.timers with blanking := (s.evaluateTemperature θ).timers.blanking } := by
  obtain ⟨hkept, _⟩ := (s.evaluateDerate θ).evaluateThermalCut_kept θ
  rw [State.evaluateTemperature, hkept]
  exact ⟨s.evaluateDerate_blanking θ, s.evaluateDerate_timers θ⟩

theorem State.evaluateTemperature_meters (s : State) (θ : Int) :
    (s.evaluateTemperature θ).meters = s.meters := by
  obtain ⟨_, hmeters⟩ := (s.evaluateDerate θ).evaluateThermalCut_kept θ
  simp [State.evaluateTemperature, hmeters]

end Temperature

/-! ### The two samples (R134, R139, R140) -/

section Samples

variable (s : State)

/-- A slot completed with its sample, before the driver block's response: the time has passed, and no item but the sense block's
has moved. -/
def State.sampled (n : Sense) : State :=
  { s with timers := s.completeSlot.timers, link := s.completeSlot.link, sense := n }

theorem State.completeSlot_modSense (f : Sense → Sense) : s.completeSlot.modSense f = s.sampled (f s.sense) := by
  simp only [State.sampled, State.completeSlot, State.elapse]
  split <;> rfl

variable {s}

theorem exec_vsupSample_of_due (hsupply : s.supplyLow = false) (hdue : s.slotDue .vsup = true) (code : Code12) :
    exec (.vsupSample code) s =
      .next ((s.sampled { s.sense with supply := some (filtered s.sense.supply (scaleSupply code)) }).evaluateSupply
        (filtered s.sense.supply (scaleSupply code))) := by
  simp only [exec, execVsupSample, act_of_live hsupply, hdue, if_true, State.completeSlot_modSense]

theorem exec_tdieSample_of_due (hsupply : s.supplyLow = false) (hdue : s.slotDue .tdie = true) (code : Code12) :
    exec (.tdieSample code) s =
      .next
        ((s.sampled
            { s.sense with
              temperature := some (filtered s.sense.temperature (scaleTemperature code)) }).evaluateTemperature
          (filtered s.sense.temperature (scaleTemperature code))) := by
  simp only [exec, execTdieSample, act_of_live hsupply, hdue, if_true, State.completeSlot_modSense,
    State.evaluateTemperature]

end Samples

/-- Settles O34: each sample out of turn, and in its turn the driver block's response item by item, on the state whose slot has
completed. -/
theorem supplyAndTemperatureSamples : Obligations.SupplyAndTemperatureSamples := by
  intro code s hsupply w mV v celsius θ under derate cut imax command computed
  refine ⟨fun hout => by simp [exec, execVsupSample, act_of_live hsupply, hout],
    fun hout => by simp [exec, execTdieSample, act_of_live hsupply, hout], fun hdue => ?_, fun hdue => ?_⟩
  · let u := s.sampled { s.sense with supply := some v }
    obtain ⟨hset, hstands⟩ := u.evaluateSupply_items v
    obtain ⟨htimers, hmeters⟩ := u.evaluateSupply_kept v
    obtain ⟨hsequencers, htarget⟩ := State.returnRunning_congr (s := s) (t := u) rfl rfl rfl
    have hcontrollers := State.returnRunning_controllers_congr (s := s) (t := u) rfl rfl
    refine ⟨u.evaluateSupply v, exec_vsupSample_of_due hsupply hdue code, ?_, u.evaluateSupply_conditions v,
      fun ch => u.evaluateSupply_computedIn v ch _, fun hrises hbefore => ?_, fun hkeeps => ?_, htimers, ?_⟩
    · simp [u, State.sampled]
    · obtain ⟨hnone, hseq, htgt, hctl⟩ := hset hrises hbefore
      exact ⟨hnone, hseq.trans hsequencers, htgt.trans htarget, hctl.trans hcontrollers, hmeters⟩
    · obtain ⟨hseq, hctl, htgt⟩ := hstands hkeeps
      exact ⟨hseq, hctl, htgt, hmeters⟩
    · simp [u, State.sampled, hsupply, w]
  · let u := s.sampled { s.sense with temperature := some θ }
    have hcommand : ∀ ch, u.deratedCommand θ ch = command ch := fun ch => by
      have hstate : (u.withDerate θ).channelState ch = s.channelState ch := rfl
      refine if_congr Iff.rfl rfl ?_
      rw [State.limitedCommand, hstate]
      cases s.channelState ch <;> rfl
    obtain ⟨hset, hstands⟩ := u.evaluateTemperature_items θ
    obtain ⟨hblanking, htimers⟩ := u.evaluateTemperature_timers θ
    obtain ⟨hsequencers, htarget⟩ := State.returnRunning_congr (s := s) (t := u) rfl rfl rfl
    simp only [hcommand] at hset hstands hblanking
    refine ⟨u.evaluateTemperature θ, exec_tdieSample_of_due hsupply hdue code, ?_, u.evaluateTemperature_conditions θ,
      fun hrises hbefore => ?_, fun hkeeps => ?_, State.evaluateTemperature_computedIn (s := u),
      State.evaluateTemperature_drivers_of_same (s := u), hblanking, htimers, ?_⟩
    · simp [u, State.sampled, State.evaluateTemperature]
    · obtain ⟨hnone, hseq, htgt, hctl⟩ := hset hrises hbefore
      exact ⟨hnone, hseq.trans hsequencers, htgt.trans htarget, u.evaluateTemperature_meters θ, hctl⟩
    · obtain ⟨hseq, htgt, hctl⟩ := hstands hkeeps
      exact ⟨hseq, htgt, u.evaluateTemperature_meters θ, hctl⟩
    · simp [u, State.sampled, State.evaluateTemperature, hsupply, w]

end Sys2Proof.Machine
end

section
/-! PROOF. The control update (O28): its steps as equations of the controller and of the state, and the update as an equation
between whole states; and the two commands that are its steps (O27). -/

namespace Sys2Proof.Machine

/-! ### The steps of an update (R102, R103, R107, R108, R112, R114) -/

/-- The output of steps 2 and 3: a discarded candidate leaves the old integrator, and the command is formed with the integrator
that is in force (R102, R103). -/
theorem piOutput_eq (kp ki n x e : Int) (imax : Nat) :
    piOutput kp ki n x e imax =
      let x' := limit (-300) 300 (x + (ki * e).tdiv 64)
      let prop := (kp * e).tdiv 16
      let discard := ((imax : Int) < n + prop + x' ∧ 0 < e) ∨ (n + prop + x' < 0 ∧ e < 0)
      (if discard then x else x', (limit 0 imax (if discard then n + prop + x else n + prop + x')).toNat) := by
  simp only [piOutput, integratorCandidate, proportional, divTrunc]
  split <;> next h => simp only [h, if_true, if_false]

/-- The learned null after an update (R107, R108). -/
def Controller.nullAfter (c : Controller) (settled : Bool) : Int :=
  if settled = true ∧ 39 ≤ c.stationary then limit 200 800 (c.learnedNull + divTrunc c.integrator 8) else c.learnedNull

/-- The integrator gives up what the null takes (R108). -/
theorem Controller.stationaryUpdate_eq (c : Controller) (settled : Bool) :
    c.stationaryUpdate settled =
      { c with
        learnedNull := c.nullAfter settled
        integrator := c.integrator - (c.nullAfter settled - c.learnedNull)
        stationary := if settled = true ∧ c.stationary < 39 then c.stationary + 1 else 0 } := by
  cases settled with
  | false => simp [Controller.stationaryUpdate, Controller.nullAfter]
  | true =>
    rcases Nat.lt_or_ge c.stationary 39 with hearly | hdue
    · simp [Controller.stationaryUpdate, Controller.nullAfter, hearly, Nat.not_le.2 hearly]
    · simp [Controller.stationaryUpdate, Controller.nullAfter, Controller.nullTransfer, hdue, Nat.not_lt.2 hdue]

section Steps

variable (s : State) (ch : Channel)

theorem State.settled_eq (e : Int) :
    s.settled ch e =
      decide (s.target.effective.get ch = s.target.active.get ch ∧ e.natAbs ≤ s.store.params.holdWindow) := by
  rw [State.settled, Bool.decide_and]

theorem State.reachedTest_eq (e : Int) :
    s.reachedTest ch e =
      { s with
        target :=
          { s.target with moveOpen := s.target.moveOpen.set ch (s.target.moveOpen.get ch && !s.settled ch e) }
        controllers :=
          s.controllers.set ch
            { s.controllers.get ch with
              reached := (s.controllers.get ch).reached || (s.settled ch e && s.target.moveOpen.get ch) } } := by
  unfold State.reachedTest
  cases hreached : s.target.moveOpen.get ch && s.settled ch e with
  | true =>
    obtain ⟨hopen, hsettled⟩ := Bool.and_eq_true_iff.1 hreached
    simp [State.modTarget, State.modController, hopen, hsettled]
  | false =>
    have hstays : (s.target.moveOpen.get ch && !s.settled ch e) = s.target.moveOpen.get ch := by
      cases hopen : s.target.moveOpen.get ch <;> simp_all
    have hsame : s.controllers.set ch { s.controllers.get ch with reached := (s.controllers.get ch).reached } =
        s.controllers := s.controllers.set_get_same ch
    simp [hstays, Bool.and_comm (s.settled ch e), hreached, hsame]

/-- The track-error count of an update (R114). -/
def State.trackErrorCounted (e : Int) : State :=
  s.modController ch fun c => { c with trackErrors := if 100 < e.natAbs then bump 40 c.trackErrors else 0 }

theorem State.trackErrorUpdate_eq (e : Int) :
    s.trackErrorUpdate ch e =
      if 100 < e.natAbs ∧ 39 ≤ (s.controllers.get ch).trackErrors then
        (s.trackErrorCounted ch e).latchChannel ch .trackError
      else s.trackErrorCounted ch e := by
  have hfull : bump 40 (s.controllers.get ch).trackErrors = 40 ↔ 39 ≤ (s.controllers.get ch).trackErrors := by
    unfold bump; omega
  by_cases he : 100 < e.natAbs <;>
    simp [State.trackErrorUpdate, State.trackErrorCounted, State.modController, he, hfull]

end Steps

/-! ### The update as a whole (R100) -/

section Update

variable (s : State) (ch : Channel) (phase : Int)

def State.updateError : Int := controlError (s.target.effective.get ch) phase

/-- The integrator and the command of steps 2 and 3. -/
def State.updateOutput : Int × Nat :=
  piOutput s.store.params.kp s.store.params.ki (s.controllers.get ch).learnedNull (s.controllers.get ch).integrator
    (s.updateError ch phase) s.imaxEff

def State.updateSettled : Bool := s.settled ch (s.updateError ch phase)

/-- The controller after an update. -/
def State.controllerAfterUpdate : Controller :=
  { Controller.stationaryUpdate
      { s.controllers.get ch with
        integrator := (s.updateOutput ch phase).1
        command := (s.updateOutput ch phase).2
        lastError := some (s.updateError ch phase)
        reached :=
          (s.controllers.get ch).reached || (s.updateSettled ch phase && s.target.moveOpen.get ch) }
      (s.updateSettled ch phase) with
    trackErrors := if 100 < (s.updateError ch phase).natAbs then bump 40 (s.controllers.get ch).trackErrors else 0 }

/-- The state after an update, before the latch of TRACK_ERROR. -/
def State.afterUpdate : State :=
  { s with
    controllers := s.controllers.set ch (s.controllerAfterUpdate ch phase)
    target :=
      { s.target with
        moveOpen := s.target.moveOpen.set ch (s.target.moveOpen.get ch && !s.updateSettled ch phase) }
    drivers := s.drivers.set ch ((s.drivers.get ch).refresh (s.dutyFor (s.updateOutput ch phase).2))
    timers :=
      { s.timers with
        blanking := s.timers.blanking.set ch (s.blankingFor ch (s.updateOutput ch phase).2) } }

/-- The state that the steps before the track-error count leave. -/
def State.steppedBeforeCount : State :=
  (((((s.modController ch fun c => { c with integrator := (s.updateOutput ch phase).1 }).setCommand ch
    (s.updateOutput ch phase).2).modController ch fun c => { c with lastError := some (s.updateError ch phase) }).reachedTest
      ch (s.updateError ch phase)).modController ch fun c => c.stationaryUpdate (s.updateSettled ch phase))

theorem State.controlUpdate_eq_trackErrorUpdate :
    s.controlUpdate ch phase = (s.steppedBeforeCount ch phase).trackErrorUpdate ch (s.updateError ch phase) := by
  simp only [State.controlUpdate, State.setCommand_eq, State.reachedTest_eq, State.steppedBeforeCount]
  rfl

theorem State.trackErrorCounted_steppedBeforeCount :
    (s.steppedBeforeCount ch phase).trackErrorCounted ch (s.updateError ch phase) = s.afterUpdate ch phase := by
  simp only [State.steppedBeforeCount, State.setCommand_eq, State.reachedTest_eq, State.trackErrorCounted,
    State.afterUpdate, State.controllerAfterUpdate, Controller.stationaryUpdate_eq]
  cases ch <;> rfl

theorem State.controlUpdate_eq :
    s.controlUpdate ch phase =
      if 100 < (s.updateError ch phase).natAbs ∧ 39 ≤ (s.controllers.get ch).trackErrors then
        (s.afterUpdate ch phase).latchChannel ch .trackError
      else s.afterUpdate ch phase := by
  have hcount : ((s.steppedBeforeCount ch phase).controllers.get ch).trackErrors = (s.controllers.get ch).trackErrors := by
    simp [State.steppedBeforeCount, State.reachedTest_eq, Controller.stationaryUpdate_eq]
  rw [State.controlUpdate_eq_trackErrorUpdate, State.trackErrorUpdate_eq, State.trackErrorCounted_steppedBeforeCount, hcount]

theorem State.startsBlanking_eq (i : Nat) :
    s.timers.blanking.set ch (s.blankingFor ch i) =
      if s.command ch < 200 ∧ 200 ≤ i then s.timers.blanking.set ch (some 0) else s.timers.blanking := by
  unfold State.blankingFor
  split
  · rfl
  · exact Pair.set_get_same _ _

end Update

/-- After a latch the kind is in the set, and a channel that it is new to is in FAULT with a command of 0 (R75, R92). -/
theorem State.latchChannel_latches (s : State) (ch : Channel) (k : ChannelFault) :
    ((s.latchChannel ch k).faults.channel.get ch).has k = true ∧
      ((s.faults.channel.get ch).has k = false →
        (s.latchChannel ch k).channelState ch = .fault ∧ (s.latchChannel ch k).command ch = 0) := by
  refine ⟨?_, fun hn => ?_⟩
  · rw [State.latchChannel_faults]
    split
    · assumption
    · simp [ChannelFaults.has_add]
  · simp [State.latchChannel_state, State.latchChannel_command, hn]

/-- Settles O28: the update as an equation between whole states, and what a latch leaves. -/
theorem controlUpdateResult : Obligations.ControlUpdateResult := by
  intro ch phase s c e x' prop i' imax discard x settled null' latches command d duty updated t
  have hout : s.updateOutput ch phase = (x, command) := piOutput_eq _ _ _ _ _ _
  have hsettled : s.updateSettled ch phase = decide settled := s.settled_eq ch _
  have hupdated : s.afterUpdate ch phase = updated := by
    simp only [State.afterUpdate, State.controllerAfterUpdate, Controller.stationaryUpdate_eq, Controller.nullAfter, hout,
      hsettled, decide_eq_true_eq, State.startsBlanking_eq]
    rfl
  have hcontrol : t = if latches then updated.latchChannel ch .trackError else updated := by
    rw [← hupdated]
    exact s.controlUpdate_eq ch phase
  have hle : command ≤ s.imaxEff := by
    have hbound : (s.updateOutput ch phase).2 ≤ s.imaxEff := piOutput_le _ _ _ _ _ _
    rwa [hout] at hbound
  refine ⟨hle, fun hnone => by rw [hcontrol, if_neg hnone], fun hlatch => ?_⟩
  rw [hcontrol, if_pos hlatch]
  exact ⟨rfl, updated.latchChannel_latches ch .trackError⟩

/-! ### The two commands (R107, R108, R114) -/

/-- Settles O27: each command is the controller's own step that completes its count. -/
theorem nullTransferAndTrackError : Obligations.NullTransferAndTrackError := by
  intro ch e s hsupply hstate herror
  refine ⟨?_, fun he hcount => ?_⟩
  · intro hfinal hwindow hcount x n n'
    have hsettled : s.settled ch e = true := by simp [State.settled_eq, hfinal, hwindow]
    simp only [exec, execNullTransfer, act_of_live hsupply, herror]
    rw [if_pos ⟨hstate, hsettled, by omega⟩]
    simp [State.modController, Controller.stationaryUpdate_eq, Controller.nullAfter, hcount, Nat.not_lt.2 hcount, n', n, x,
      divTrunc]
  · have hbump : bump 40 (s.controllers.get ch).trackErrors = 40 := bump_of_le (by omega)
    simp only [exec, execTrackError, act_of_live hsupply, herror]
    rw [if_pos ⟨hstate, he, hbump⟩, State.trackErrorUpdate_eq, if_pos ⟨he, hcount⟩]
    simp [State.trackErrorCounted, State.modController, he, hbump]

end Sys2Proof.Machine
end

section
/-! PROOF. The completion of a transmission (O43): the slot, the order, and the reached flags that the completed STATUS
carried. -/

namespace Sys2Proof.Machine

/-- A controller whose reached flag clears where `lowers` says so (R113). -/
def Controller.lowerReached (c : Controller) (lowers : Bool) : Controller := { c with reached := c.reached && !lowers }

/-- A completed STATUS frame clears a channel's reached flag that it carried, unless a newer content that waits carries it too
(R113, R162). -/
theorem State.clearReached_eq (s : State) (f : Frame) (ch : Channel) :
    s.clearReached f ch = s.modController ch fun c => c.lowerReached (f.carriesReached ch && !s.reachedWaits ch) := by
  unfold State.clearReached
  cases f.carriesReached ch && !s.reachedWaits ch with
  | true => simp [Controller.lowerReached]
  | false =>
    have hsame : s.controllers.set ch { s.controllers.get ch with reached := (s.controllers.get ch).reached } =
        s.controllers := s.controllers.set_get_same ch
    simp [Controller.lowerReached, State.modController, hsame]

/-- What waits after a completed STATUS is a newer content, which has the mark clear (R162). -/
theorem State.reachedWaits_completed (s : State) (ch : Channel) :
    (s.atBitRead fun l => l.complete .status).reachedWaits ch =
      (!s.link.status.onLine && s.link.status.content.any fun g => g.carriesReached ch) := by
  show s.link.status.completed.content.any _ = _
  unfold Slot.completed
  split <;> next h => simp [h, Slot.empty]

theorem Link.complete_eq (l : Link) (k : SlotName) :
    l.complete k =
      { (l.setSlot k (if (l.slot k).onLine = true then ⟨none, false, 0⟩ else l.slot k)) with
        transmitter := .free
        faultOrder := if k ∈ l.faultOrder then l.faultOrder.filter (· ≠ k) ++ [k] else l.faultOrder
        reading := .no, gapCount := 8, dominantRun := 0, discardRun := 0, goodRun := min 16 (l.goodRun + 1)
        linkErrors := l.linkErrors && decide (min 16 (l.goodRun + 1) ≠ 16) } := by
  cases k <;> rfl

theorem State.completeTransmission_of_sending {s : State} {k : SlotName} {f : Frame}
    (h : s.link.transmitter = .sending k f) :
    s.completeTransmission =
      let read := s.atBitRead fun l => l.complete k
      let lowers := fun ch => decide (k = .status) && f.carriesReached ch && !read.reachedWaits ch
      { read with
        controllers :=
          ⟨s.controllers.a.lowerReached (lowers .a), s.controllers.b.lowerReached (lowers .b)⟩ } := by
  simp only [State.completeTransmission, h, State.eachChannel_def, State.clearReached_eq]
  split
  · next hk => subst hk; rfl
  · next hk => simp [hk, Controller.lowerReached, State.atBitRead, State.modLink, State.modTimers]

/-- Settles O43: the completion as an equation between whole states, with what waits in the STATUS slot after it. -/
theorem transmissionCompletes : Obligations.TransmissionCompletes := by
  intro k f s hsupply hsending carries newer
  have hnewer : ∀ ch, newer ch = (!s.link.status.onLine && s.link.status.content.any fun g => g.carriesReached ch) := by
    intro ch
    simp only [newer]
    cases s.link.status.content with
    | none => simp
    | some g => rfl
  refine ⟨s.completeTransmission, act_of_live hsupply _, ?_⟩
  rw [State.completeTransmission_of_sending hsending]
  refine ⟨Link.complete_eq _ _, fun ch => ?_, rfl⟩
  have hlowers : (decide (k = .status) && carries f ch && !newer ch) =
      (decide (k = .status) && f.carriesReached ch && !(s.atBitRead fun l => l.complete k).reachedWaits ch) := by
    by_cases hk : k = .status
    · subst hk
      rw [hnewer, State.reachedWaits_completed]
      rfl
    · simp [hk]
  rw [hlowers]
  cases ch <;> rfl

end Sys2Proof.Machine
end

section
/-! PROOF. The configuration store's frames (O37): a parameter stored by its number, the reseeds of R110 and R123, and CONFIG
and CLOSE as equations between whole states. -/

namespace Sys2Proof.Machine

/-! ### The parameters by their numbers (R168, R171) -/

theorem paramRange_of_le {id : Nat} (h : 20 ≤ id) : paramRange id = none := by
  obtain ⟨j, rfl⟩ := Nat.exists_eq_add_of_le' h
  rfl

theorem lt_of_paramRange {id lo hi : Nat} (h : paramRange id = some (lo, hi)) : id < 20 := by
  by_contra hle
  rw [paramRange_of_le (Nat.not_lt.1 hle)] at h
  cases h

/-- The twenty parameters in the order of their numbers. -/
def Params.values (p : Params) : List Nat :=
  [p.overlapLimit, p.intakeMax, p.exhaustMax, p.kp, p.ki, p.slewMax, p.holdWindow, p.nullBase, p.currentLimit,
    p.coilResistance, p.releasePressure, p.lowOilPressure, p.budgetZero, p.budgetStep, p.overcurrent, p.filterCode,
    p.st0Source, p.st1Source, p.freshness, p.releaseCurrent]

theorem Params.get_eq_values (p : Params) (k : Nat) : p.get k = p.values.getD k 0 := by
  rcases Nat.lt_or_ge k 20 with hk | hk
  · interval_cases k <;> rfl
  · obtain ⟨j, rfl⟩ := Nat.exists_eq_add_of_le' hk
    rfl

theorem Params.values_set (p : Params) (id v : Nat) : (p.set id v).values = p.values.set id v := by
  rcases Nat.lt_or_ge id 20 with hid | hid
  · interval_cases id <;> rfl
  · obtain ⟨j, rfl⟩ := Nat.exists_eq_add_of_le' hid
    rfl

theorem Params.get_set (p : Params) {id : Nat} (h : id < 20) (k v : Nat) :
    (p.set id v).get k = if k = id then v else p.get k := by
  rw [Params.get_eq_values, Params.get_eq_values, Params.values_set]
  by_cases hk : k = id
  · subst hk
    simp [h, Params.values]
  · simp [List.getElem?_set_ne (Ne.symm hk), hk]

theorem Params.check_toNat (p : Params) : p.check.toNat = ((List.range 20).map p.get).sum % 65536 :=
  BitVec.toNat_ofNat _ _

/-! ### The reseeds (R110, R123) -/

/-- The reseeds of a stored parameter: 7 both nulls, 9 both resistance estimates with their duties computed anew. -/
theorem State.reseed_eq (s : State) (id v : Nat) :
    s.reseed id v =
      { s with
        controllers :=
          if id = 7 then ⟨{ s.controllers.a with learnedNull := v }, { s.controllers.b with learnedNull := v }⟩
          else s.controllers
        drivers :=
          if id = 9 then
            ⟨{ s.drivers.a with rEst := v }.refresh (s.dutyFor (s.command .a)),
              { s.drivers.b with rEst := v }.refresh (s.dutyFor (s.command .b))⟩
          else s.drivers } := by
  unfold State.reseed
  by_cases hnull : id = 7
  · subst hnull; rfl
  · by_cases hcoil : id = 9
    · subst hcoil; rfl
    · simp [hnull, hcoil]

/-! ### A stored parameter (R169, R170, R171) -/

/-- The store of a value with the reseeds that it brings. -/
def State.stored (s : State) (id v : Nat) : State := (s.modStore fun c => c.storeParam id v).reseed id v

section Stored

variable (s : State) (id v : Nat)

theorem State.stored_store : (s.stored id v).store = s.store.storeParam id v := by
  rw [State.stored, State.reseed_eq]
  rfl

theorem State.stored_get {id : Nat} (h : id < 20) (v k : Nat) :
    (s.stored id v).store.params.get k = if k = id then v else s.store.params.get k := by
  rw [State.stored_store]
  exact Params.get_set _ h k v

theorem State.stored_controller (ch : Channel) :
    (s.stored id v).controllers.get ch =
      if id = 7 then { s.controllers.get ch with learnedNull := v } else s.controllers.get ch := by
  rw [State.stored, State.reseed_eq]
  exact (apply_ite (Pair.get · ch) _ _ _).trans (by cases ch <;> rfl)

theorem State.stored_driver (ch : Channel) :
    (s.stored id v).drivers.get ch =
      if id = 9 then { s.drivers.get ch with rEst := v }.refresh (s.dutyFor (s.command ch)) else s.drivers.get ch := by
  rw [State.stored, State.reseed_eq]
  exact (apply_ite (Pair.get · ch) _ _ _).trans (by cases ch <;> rfl)

theorem State.stored_frame :
    s.stored id v =
      { s with
        store := (s.stored id v).store
        controllers := (s.stored id v).controllers
        drivers := (s.stored id v).drivers } := by
  rw [State.stored, State.reseed_eq]
  rfl

end Stored

/-! ### The two frames (R169, R172) -/

/-- The state at the read of the last bit of a good frame, before the frame is delivered (R145, R152). -/
def State.frameRead (s : State) : State := s.atBitRead fun l => l.endFrame.countGood

section Frames

variable {s : State} {h : Header}

theorem State.receive_of_other {f : Frame} (hhears : s.link.hears = true) (hsource : f.header.source ≠ s.straps.address)
    (straps : Straps) :
    s.receive f straps =
      if accepted s.straps.address f then s.frameRead.deliver f straps else s.frameRead := by
  simp [State.receive, State.frameRead, hhears, hsource]

/-- A frame of which only an addressed one is taken, from another station. -/
theorem State.receive_addressed {f : Frame} {take : Bool → State → State} {straps : Straps}
    (hears : Safety.Hears s) (hsource : f.header.source ≠ s.straps.address)
    (hdeliver : ∀ u : State, u.deliver f straps = take f.header.addressed u) (hbroadcast : ∀ u, take false u = u) :
    s.receive f straps =
      if f.header.addressed = true ∧ f.header.dest = s.straps.address then take true s.frameRead else s.frameRead := by
  obtain ⟨_, hfree, hidle⟩ := hears
  rw [State.receive_of_other ((Link.hears_iff _).2 ⟨hfree, hidle⟩) hsource, hdeliver]
  cases haddressed : f.header.addressed <;> simp [accepted, haddressed, hbroadcast]

theorem exec_config_eq (hears : Safety.Hears s) (hsource : h.source ≠ s.straps.address) (id value : Word16) :
    exec (.config h id value) s =
      .next
        (if h.addressed = true ∧ h.dest = s.straps.address then s.frameRead.takeConfig true id value
        else s.frameRead) := by
  simp only [exec, execConfig, act_of_live hears.1]
  rw [State.receive_addressed (take := fun addressed u => u.takeConfig addressed id value) hears hsource (fun _ => rfl)
    fun _ => rfl]

theorem exec_close_eq (hears : Safety.Hears s) (hsource : h.source ≠ s.straps.address) :
    exec (.close h) s =
      .next
        (if h.addressed = true ∧ h.dest = s.straps.address then
          s.frameRead.modStore fun c => { c with windowOpen := false }
        else s.frameRead) := by
  simp only [exec, execClose, act_of_live hears.1]
  rw [State.receive_addressed (take := fun addressed u => u.takeClose addressed) hears hsource (fun _ => rfl)
    fun _ => rfl]
  rfl

end Frames

theorem State.takeConfig_of_range {s : State} {id : Word16} {lo hi : Nat} (hwindow : s.store.windowOpen = true)
    (hrange : paramRange id.toNat = some (lo, hi)) (value : Word16) :
    s.takeConfig true id value = s.stored id.toNat (limitNat lo hi value.toNat) := by
  simp [State.takeConfig, State.stored, hwindow, hrange]

theorem State.takeConfig_ignored {s : State} {id : Word16} (h : s.store.windowOpen = false ∨ 20 ≤ id.toNat)
    (addressed : Bool) (value : Word16) : s.takeConfig addressed id value = s := by
  rcases h with hclosed | hid
  · simp [State.takeConfig, hclosed]
  · simp [State.takeConfig, paramRange_of_le hid]

/-- Settles O37: a stored parameter by its number, and each frame by whether it is addressed to the part. -/
theorem configAndClose : Obligations.ConfigAndClose := by
  refine ⟨⟨rfl, fun k => paramRange_of_le⟩, ?_⟩
  intro h id value s hears hsource read own
  have hconfig := exec_config_eq hears hsource id value
  have hclose := exec_close_eq hears hsource
  refine ⟨fun lo hi hown hwindow hrange => ?_, fun hignored => ?_, fun hown => hclose.trans (by rw [if_pos hown]; rfl),
    fun hother => hclose.trans (by rw [if_neg hother]; rfl)⟩
  · have hget := s.frameRead.stored_get (lt_of_paramRange hrange) (limitNat lo hi value.toNat)
    have hstore := s.frameRead.stored_store id.toNat (limitNat lo hi value.toNat)
    rw [if_pos hown, State.takeConfig_of_range (s := s.frameRead) hwindow hrange] at hconfig
    refine ⟨_, hconfig, (hget _).trans (if_pos rfl), fun k hk => (hget k).trans (if_neg hk), ?_, ?_,
      fun ch => ⟨State.stored_controller _ _ _ ch, State.stored_driver _ _ _ ch⟩, State.stored_frame _ _ _⟩
    · rw [hstore]
      exact Params.check_toNat _
    · rw [hstore]
      exact hwindow
  · rw [hconfig]
    split
    · next hown =>
      rw [State.takeConfig_ignored (s := s.frameRead) (hignored.resolve_left (not_not_intro hown))]
      rfl
    · rfl

end Sys2Proof.Machine
end

section
/-! PROOF. The controllers' items under every step (O53): the ranges of a controller by itself, and that each block's
operations keep them. Most operations change nothing of a controller but its command. -/

namespace Sys2Proof.Machine

/-! ### A controller by itself (R98, R105, R109) -/

structure Controller.InRange (c : Controller) : Prop where
  integrator : -300 ≤ c.integrator ∧ c.integrator ≤ 300
  learnedNull : 200 ≤ c.learnedNull ∧ c.learnedNull ≤ 800
  lastError : ∀ e, c.lastError = some e → -1000 ≤ e ∧ e ≤ 1000
  stationary : c.stationary ≤ 40
  trackErrors : c.trackErrors ≤ 40

theorem Controller.atReset_inRange : Controller.atReset.InRange := by
  constructor <;> simp [Controller.atReset, Params.default]

/-- An output leaves the old integrator or a limited candidate (R102, R103). -/
theorem piOutput_integrator {kp ki n x e : Int} {imax : Nat} (hx : -300 ≤ x ∧ x ≤ 300) :
    -300 ≤ (piOutput kp ki n x e imax).1 ∧ (piOutput kp ki n x e imax).1 ≤ 300 := by
  rw [piOutput_eq]
  simp only
  split
  · exact hx
  · exact limit_bounds (by decide) _

section ControllerOperations

variable {c : Controller} (h : c.InRange)
include h

theorem Controller.InRange.withCommand (i : Nat) : Controller.InRange { c with command := i } := { h with }

theorem Controller.InRange.withNull {n : Int} (hn : 200 ≤ n ∧ n ≤ 800) :
    Controller.InRange { c with learnedNull := n } :=
  { h with learnedNull := hn }

/-- The null takes an eighth of the integrator at most, and stays in its range (R108). -/
theorem Controller.InRange.nullAfter (settled : Bool) :
    (200 ≤ c.nullAfter settled ∧ c.nullAfter settled ≤ 800) ∧
      (-300 ≤ c.integrator - (c.nullAfter settled - c.learnedNull) ∧
        c.integrator - (c.nullAfter settled - c.learnedNull) ≤ 300) := by
  obtain ⟨hlo, hhi⟩ := h.integrator
  obtain ⟨hnull, hnull'⟩ := h.learnedNull
  have hshare := divTrunc_between c.integrator (d := 8) (by decide)
  unfold Controller.nullAfter limit
  (repeat' split) <;> omega

theorem Controller.InRange.stationaryUpdate (settled : Bool) : (c.stationaryUpdate settled).InRange := by
  obtain ⟨hnull, hintegrator⟩ := h.nullAfter settled
  rw [Controller.stationaryUpdate_eq]
  exact
    { h with
      integrator := hintegrator
      learnedNull := hnull
      stationary := by simp only; split <;> omega }

theorem Controller.InRange.startTracking : c.startTracking.InRange :=
  { h with
    integrator := (by decide : (-300 : Int) ≤ 0 ∧ (0 : Int) ≤ 300)
    stationary := Nat.zero_le _
    trackErrors := Nat.zero_le _
    lastError := fun _ he => by cases he }

theorem Controller.InRange.countTrackError (e : Int) :
    Controller.InRange { c with trackErrors := if 100 < e.natAbs then bump 40 c.trackErrors else 0 } :=
  { h with
    trackErrors := by
      simp only
      split
      · exact bump_le 40 _
      · exact Nat.zero_le _ }

end ControllerOperations

theorem State.controllerAfterUpdate_inRange {s : State} {ch : Channel} (h : (s.controllers.get ch).InRange) (phase : Int) :
    (s.controllerAfterUpdate ch phase).InRange := by
  have hstepped : Controller.InRange
      { s.controllers.get ch with
        integrator := (s.updateOutput ch phase).1
        command := (s.updateOutput ch phase).2
        lastError := some (s.updateError ch phase)
        reached := (s.controllers.get ch).reached || (s.updateSettled ch phase && s.target.moveOpen.get ch) } :=
    { h with
      integrator := piOutput_integrator h.integrator
      lastError := fun e he => by
        cases he
        exact limit_bounds (by decide) _ }
  have hcounted := (hstepped.stationaryUpdate (s.updateSettled ch phase)).countTrackError (s.updateError ch phase)
  simpa only [State.controllerAfterUpdate, Controller.stationaryUpdate_eq] using hcounted

/-! ### The controllers in a state -/

/-- Both controllers in range, and the null base, which CLEAR loads, in its own (R109, R111, R168). -/
structure State.ControlKept (s : State) : Prop where
  controller : ∀ ch, (s.controllers.get ch).InRange
  nullBase : 200 ≤ s.store.params.nullBase ∧ s.store.params.nullBase ≤ 800

theorem controlBounded_iff (s : State) : Safety.ControlBounded s ↔ ∀ ch, (s.controllers.get ch).InRange := by
  refine forall_congr' fun ch => ⟨?_, fun h => ?_⟩
  · rintro ⟨lo, hi, nullLo, nullHi, error, stationary, trackErrors⟩
    exact ⟨⟨lo, hi⟩, ⟨nullLo, nullHi⟩, error, stationary, trackErrors⟩
  · obtain ⟨⟨lo, hi⟩, ⟨nullLo, nullHi⟩, error, stationary, trackErrors⟩ := h
    exact ⟨lo, hi, nullLo, nullHi, error, stationary, trackErrors⟩

theorem State.controlKept_of_reset {s : State} (hc : s.controllers = .both .atReset) (hp : s.store.params = .default) :
    s.ControlKept where
  controller := fun ch => by rw [hc, Pair.get_both]; exact Controller.atReset_inRange
  nullBase := by rw [hp]; decide

theorem State.setChannelState_controllers (s : State) (ch : Channel) (new : ChannelState) :
    (s.setChannelState ch new).controllers =
      if new.running then s.controllers else s.controllers.set ch { s.controllers.get ch with command := 0 } := by
  cases new <;> simp only [State.setChannelState] <;> repeat' split
  all_goals simp_all [ChannelState.running]

namespace State.ControlKept

variable {s : State} (h : s.ControlKept)
include h

/-- An operation that leaves the controllers and the parameters. -/
theorem frame {t : State} (hc : t.controllers = s.controllers := by simp)
    (hp : t.store.params = s.store.params := by simp) : t.ControlKept where
  controller := by rw [hc]; exact h.controller
  nullBase := by rw [hp]; exact h.nullBase

/-- An operation on the controller of one channel. -/
theorem setController {t : State} {ch : Channel} {c : Controller} (hin : (s.controllers.get ch).InRange → c.InRange)
    (hc : t.controllers = s.controllers.set ch c := by simp) (hp : t.store.params = s.store.params := by simp) :
    t.ControlKept where
  controller := fun k => by
    rw [hc, Pair.get_set]
    split
    · exact hin (h.controller ch)
    · exact h.controller k
  nullBase := by rw [hp]; exact h.nullBase

theorem modController {ch : Channel} {f : Controller → Controller}
    (hf : (s.controllers.get ch).InRange → (f (s.controllers.get ch)).InRange) : (s.modController ch f).ControlKept :=
  h.setController hf

omit h in
theorem ite {p : Prop} [Decidable p] {u v : State} (hu : u.ControlKept) (hv : v.ControlKept) :
    (if p then u else v).ControlKept := by
  split
  · exact hu
  · exact hv

theorem modMeter (ch : Channel) (f : Meter → Meter) : (s.modMeter ch f).ControlKept := h.frame

theorem modSequencer (ch : Channel) (f : Sequencer → Sequencer) : (s.modSequencer ch f).ControlKept := h.frame

theorem modDriver (ch : Channel) (f : Driver → Driver) : (s.modDriver ch f).ControlKept := h.frame

theorem modDecoder (f : Decoder → Decoder) : (s.modDecoder f).ControlKept := h.frame

theorem modEngine (f : EngineStore → EngineStore) : (s.modEngine f).ControlKept := h.frame

theorem modSense (f : Sense → Sense) : (s.modSense f).ControlKept := h.frame

/-! ### Commands, channel states, exits and latches -/

theorem setCommand (ch : Channel) (i : Nat) : (s.setCommand ch i).ControlKept :=
  h.setController (ch := ch) fun hc => hc.withCommand i

theorem setChannelState (ch : Channel) (new : ChannelState) : (s.setChannelState ch new).ControlKept := by
  have hcontrollers := s.setChannelState_controllers ch new
  split at hcontrollers
  · exact h.frame hcontrollers
  · exact h.setController (fun hc => hc.withCommand 0) hcontrollers

theorem enterReturning (ch : Channel) : (s.enterReturning ch).ControlKept :=
  have hentered := (h.setChannelState ch .returning).modSequencer ch fun q => { q with returnCount := 0, returnRun := 0 }
  ite hentered (hentered.setChannelState ch .parked)

theorem exitRunning (ch : Channel) : (s.exitRunning ch).ControlKept := ite (h.enterReturning ch) h

theorem returnRunning : s.returnRunning.ControlKept := (h.exitRunning .a).exitRunning .b

theorem latchChannel (ch : Channel) (k : ChannelFault) : (s.latchChannel ch k).ControlKept := by
  have hset : (s.modFaults fun f => { f with channel := f.channel.set ch ((f.channel.get ch).add k) }).ControlKept := h.frame
  exact ite h (hset.setChannelState ch .fault).frame

theorem latchStation (k : StationFault) : (s.latchStation k).ControlKept := by
  refine ite h (State.ControlKept.returnRunning ?_)
  cases k <;> exact h.frame

/-! ### The meters' events -/

theorem revolutionTest (ch : Channel) : (s.revolutionTest ch).ControlKept :=
  ite ((h.modMeter ch _).latchChannel ch .camLost) (h.modMeter ch _)

theorem noiseTest (ch : Channel) : (s.noiseTest ch).ControlKept :=
  ite ((h.modMeter ch _).latchChannel ch .camNoise) (h.modMeter ch _)

theorem parkLearning (ch : Channel) : (s.parkLearning ch).ControlKept :=
  ite (ite (h.modMeter ch _) (h.latchChannel ch .parkOffsetRange)) h

theorem meterCycleReference (ch : Channel) : (s.meterCycleReference ch).ControlKept :=
  (((h.parkLearning ch).modMeter ch _).noiseTest ch).modMeter ch _

/-! ### The channels' events -/

theorem startRelease (ch : Channel) : (s.startRelease ch).ControlKept :=
  ((h.setChannelState ch .releasing).modSequencer ch _).setCommand ch _

theorem enterTracking (ch : Channel) (phase : Int) : (s.enterTracking ch phase).ControlKept := by
  have hentered : (((s.setChannelState ch .tracking).modSequencer ch fun q =>
      { q with attempts := 3, retryHold := 0 }).modTarget fun t =>
        { t with effective := t.effective.set ch (s.entryTarget ch phase) }).ControlKept :=
    (h.setChannelState ch .tracking).frame
  exact (hentered.modController fun hc => hc.startTracking).setCommand ch _

theorem releaseProgress (ch : Channel) (phase : Int) : (s.releaseProgress ch phase).ControlKept :=
  ite ((h.modSequencer ch _).enterTracking ch phase) (h.modSequencer ch _)

theorem returnProgress (ch : Channel) (phase : Int) : (s.returnProgress ch phase).ControlKept :=
  ite ((h.modSequencer ch _).setChannelState ch .parked) (h.modSequencer ch _)

theorem trackErrorUpdate (ch : Channel) (e : Int) : (s.trackErrorUpdate ch e).ControlKept := by
  have hcounted : (s.trackErrorCounted ch e).ControlKept := h.modController fun hc => hc.countTrackError e
  rw [State.trackErrorUpdate_eq]
  exact ite (hcounted.latchChannel ch .trackError) hcounted

theorem controlUpdate (ch : Channel) (phase : Int) : (s.controlUpdate ch phase).ControlKept := by
  have hupdated : (s.afterUpdate ch phase).ControlKept :=
    h.setController (fun hc => State.controllerAfterUpdate_inRange hc phase) rfl rfl
  rw [State.controlUpdate_eq]
  exact ite (hupdated.latchChannel ch .trackError) hupdated

theorem trackingEvent (ch : Channel) (phase : Int) : (s.trackingEvent ch phase).ControlKept := by
  have hramped : (s.ramp ch).ControlKept := h.frame
  exact ite (hramped.enterReturning ch) (hramped.controlUpdate ch phase)

theorem phaseMeasured (ch : Channel) (phase : Int) : (s.phaseMeasured ch phase).ControlKept := by
  unfold State.phaseMeasured
  split
  · exact ite (h.startRelease ch) h
  · exact h.releaseProgress ch phase
  · exact h.trackingEvent ch phase
  · exact h.returnProgress ch phase
  · exact h

theorem releaseTick (ch : Channel) : (s.releaseTick ch).ControlKept :=
  have htimed := (h.modSequencer ch fun q => { q with releaseCount := bump 8 (s.sequencers.get ch).releaseCount }).modSequencer
    ch fun q => { q with attempts := q.attempts - 1, retryHold := 2 }
  ite (ite (htimed.latchChannel ch .lockStuck) (htimed.setChannelState ch .parked)) (h.modSequencer ch _)

theorem returnTick (ch : Channel) : (s.returnTick ch).ControlKept :=
  ite ((h.modSequencer ch _).latchChannel ch .noReturn) (h.modSequencer ch _)

theorem sequencerTick (ch : Channel) : (s.sequencerTick ch).ControlKept := by
  cases hstate : s.channelState ch with
  | parked =>
    rw [State.sequencerTick_of_parked hstate]
    exact ite h (h.modSequencer ch _)
  | releasing =>
    rw [State.sequencerTick_of_releasing hstate]
    exact h.releaseTick ch
  | returning =>
    rw [State.sequencerTick_of_returning hstate]
    exact h.returnTick ch
  | tracking => rwa [State.sequencerTick_of_other (.inl hstate)]
  | fault => rwa [State.sequencerTick_of_other (.inr hstate)]

theorem engineAging : s.engineAging.ControlKept := ite (h.modEngine _).returnRunning (h.modEngine _)

/-! ### The cycle reference at every block -/

theorem targetCycleReference : s.targetCycleReference.ControlKept :=
  have htransferred : ∀ f, (s.modTarget f).ControlKept := fun _ => h.frame
  ite (htransferred _).returnRunning (htransferred _)

theorem oilConditions : s.oilConditions.ControlKept :=
  have hevaluated : s.evaluateOil.ControlKept := h.frame
  ite hevaluated.returnRunning hevaluated

theorem oilCycleReference : s.oilCycleReference.ControlKept :=
  have hformed : s.evaluateOil.budgetCompute.ControlKept := h.frame
  ite hformed.returnRunning hformed

theorem sequencerCycleReference : s.sequencerCycleReference.ControlKept := by
  rw [State.sequencerCycleReference, State.eachChannel_def]
  exact (h.engineAging.sequencerTick .a).sequencerTick .b

theorem takeCycleReference (b : CycleBlock) : (s.takeCycleReference b).ControlKept := by
  cases b with
  | meterA => exact h.meterCycleReference .a
  | meterB => exact h.meterCycleReference .b
  | target => exact h.targetCycleReference
  | oil => exact h.oilCycleReference
  | sequencer => exact h.sequencerCycleReference
  | driverA | driverB | statusAssembly => unfold State.takeCycleReference; exact h.frame

theorem cycleReference (order : List CycleBlock) : (s.cycleReference order).ControlKept := by
  unfold State.cycleReference
  generalize blockOrder order = blocks
  induction blocks generalizing s with
  | nil => exact h
  | cons b bs ih => exact ih (h.takeCycleReference b)

/-! ### The decoder's events -/

theorem channelSyncLost (ch : Channel) : (s.channelSyncLost ch).ControlKept := by
  unfold State.channelSyncLost
  split
  · exact h
  · exact h.enterReturning ch
  · exact h.enterReturning ch
  · exact h.setChannelState ch .parked
  · exact h

theorem publishSyncLost : s.publishSyncLost.ControlKept := by
  have hunits : ((((s.modMeter .a Meter.syncLost).modMeter .b Meter.syncLost).modTarget TargetUnit.syncReset).modOil
      OilUnit.syncLost).ControlKept := h.frame
  exact ((hunits.channelSyncLost .a).channelSyncLost .b).frame rfl rfl

theorem publishRevolution : s.publishRevolution.ControlKept := (h.revolutionTest .a).revolutionTest .b

theorem countLoss : s.countLoss.ControlKept := ite ((h.modDecoder _).latchStation .crankUnstable) (h.modDecoder _)

theorem toothError (t : Tick) : (s.toothError t).ControlKept := (h.modDecoder _).publishSyncLost.countLoss

theorem closeRevolution (t : Tick) (order : List CycleBlock) : (s.closeRevolution t order).ControlKept := by
  unfold State.closeRevolution
  split
  · exact (h.modDecoder _).publishRevolution
  · exact (h.modDecoder _).publishRevolution.cycleReference order
  · exact (h.modDecoder _).publishRevolution

theorem syncedEdge (t : Tick) (order : List CycleBlock) : (s.syncedEdge t order).ControlKept := by
  simp only [State.syncedEdge]
  split
  · exact ite (ite (h.modDecoder _) (h.toothError t)) (ite (h.closeRevolution t order) (h.toothError t))
  · exact h.toothError t

theorem seekEdge (t : Tick) : (s.seekEdge t).ControlKept := by
  have hgained : (s.gainRevSync t).ControlKept := h.frame (hp := rfl)
  simp only [State.seekEdge]
  split
  · exact h.modDecoder _
  · exact ite hgained (h.modDecoder _)

theorem crankEdge (t : Tick) (order : List CycleBlock) : (s.crankEdge t order).ControlKept := by
  refine ite h ?_
  split
  · exact h.modDecoder _
  · exact h.seekEdge t
  · exact h.syncedEdge t order
  · exact h.syncedEdge t order

theorem stall : s.stall.ControlKept := by
  unfold State.stall
  split
  · exact h
  · exact h.modDecoder _
  · exact (h.modDecoder _).publishSyncLost
  · exact (h.modDecoder _).publishSyncLost

theorem measureEdge (ch : Channel) (angle : Nat) : (s.measureEdge ch angle).ControlKept := by
  simp only [State.measureEdge]
  split
  · exact h.modMeter ch _
  · exact ite (h.modMeter ch _) ((h.modMeter ch _).phaseMeasured ch _)

theorem captureEdge (ch : Channel) (angle : Option Nat) : (s.captureEdge ch angle).ControlKept := by
  have hseen := h.modMeter ch fun m => { m with edgeSeen := true, missing := 0 }
  cases angle with
  | none => exact hseen
  | some a => exact hseen.measureEdge ch a

theorem camEdge (ch : Channel) (t : Tick) : (s.camEdge ch t).ControlKept := by
  have hgained : ∀ f g, ((s.modDecoder f).modDecoder g).publishCycleSync.ControlKept := fun _ _ => h.frame
  simp only [State.camEdge]
  split
  · exact h
  · exact h
  · exact ite ((hgained _ _).captureEdge ch _) ((h.modDecoder _).captureEdge ch none)
  · exact ite (((h.modDecoder _).modDecoder _).publishSyncLost.captureEdge ch none).countLoss
      ((h.modDecoder _).captureEdge ch _)

theorem deliverEdge (pin : AnglePin) (t : Tick) (order : List CycleBlock) : (s.deliverEdge pin t order).ControlKept := by
  unfold State.deliverEdge
  split
  · exact h.crankEdge t order
  · exact h.camEdge _ t

/-! ### Samples -/

theorem elapse (n : Nat) : (s.elapse n).ControlKept := h.frame

theorem completeSlot : s.completeSlot.ControlKept := h.frame

theorem openCoilTest (ch : Channel) (sample : Nat) : (s.openCoilTest ch sample).ControlKept :=
  ite (ite ((h.modDriver ch _).latchChannel ch .openCoil) (h.modDriver ch _)) (h.modDriver ch _)

theorem tripDriver (ch : Channel) : (s.tripDriver ch).ControlKept := (h.modDriver ch _).latchChannel ch .overcurrent

theorem modConditions_computeDuties (f : Conditions → Conditions) : (s.modConditions f).computeDuties.ControlKept := h.frame

theorem evaluateSupply (v : Int) : (s.evaluateSupply v).ControlKept :=
  ite (h.modConditions_computeDuties _).returnRunning (h.modConditions_computeDuties _)

theorem evaluateDerate (θ : Int) : (s.evaluateDerate θ).ControlKept where
  controller := fun ch => by rw [State.evaluateDerate_controller]; exact { h.controller ch with }
  nullBase := by simpa using h.nullBase

theorem evaluateThermalCut (θ : Int) : (s.evaluateThermalCut θ).ControlKept :=
  ite h (ite (h.modConditions_computeDuties _).returnRunning (h.modConditions_computeDuties _))

theorem rangeCheck (code : Code12) : (s.rangeCheck code).ControlKept :=
  ite (h.modSense _) (ite ((h.modSense _).latchStation .oilpSensor) (h.modSense _))

/-! ### Frames (R110, R111, R113) -/

theorem engineArrival (code : Word16) : (s.engineArrival code).ControlKept := by
  simp only [State.engineArrival]
  split
  · exact h.modEngine _
  · exact (h.modEngine _).returnRunning

theorem nullBase_mem : 200 ≤ (s.store.params.nullBase : Int) ∧ (s.store.params.nullBase : Int) ≤ 800 :=
  have ⟨hlo, hhi⟩ := h.nullBase
  ⟨by omega, by omega⟩

/-- A relearn loads the null base (R111). -/
theorem takeClear (w : Word16) : (s.takeClear w).ControlKept where
  controller := fun ch => by
    rw [State.takeClear_eq]
    simp only [Pair.get_replaceWhere]
    split
    · unfold State.controllerAfterClear
      split
      · exact ((h.controller ch).withCommand (s.commandAfterClear ch)).withNull h.nullBase_mem
      · exact (h.controller ch).withCommand _
    · exact h.controller ch
  nullBase := by rw [State.takeClear_eq]; exact h.nullBase

/-- A store of parameter 7 changes the null base and both nulls alike, within its range (R110). -/
theorem stored {id lo hi : Nat} (hrange : paramRange id = some (lo, hi)) (value : Nat) :
    (s.stored id (limitNat lo hi value)).ControlKept := by
  have hlimited : id = 7 → 200 ≤ limitNat lo hi value ∧ limitNat lo hi value ≤ 800 := by
    rintro rfl
    cases hrange
    exact limitNat_bounds (by decide) value
  refine ⟨fun ch => ?_, ?_⟩
  · rw [State.stored_controller]
    split
    · next hid =>
      obtain ⟨hlo, hhi⟩ := hlimited hid
      exact (h.controller ch).withNull ⟨by omega, by omega⟩
    · exact h.controller ch
  · have hbase : (s.stored id (limitNat lo hi value)).store.params.nullBase =
        if 7 = id then limitNat lo hi value else s.store.params.nullBase :=
      s.stored_get (lt_of_paramRange hrange) _ 7
    rw [hbase]
    split
    · next hid => exact hlimited hid.symm
    · exact h.nullBase

theorem takeConfig (addressed : Bool) (id value : Word16) : (s.takeConfig addressed id value).ControlKept := by
  unfold State.takeConfig
  refine ite ?_ h
  split
  · exact h
  · next hrange => exact h.stored hrange value.toNat

theorem takeClose (addressed : Bool) : (s.takeClose addressed).ControlKept := ite (h.frame rfl rfl) h

theorem takeRestart (addressed : Bool) (straps : Straps) : (s.takeRestart addressed straps).ControlKept :=
  ite (State.controlKept_of_reset rfl rfl) h

theorem deliver (f : Frame) (straps : Straps) : (s.deliver f straps).ControlKept := by
  unfold State.deliver
  split
  · exact h.frame
  · exact h.engineArrival _
  · exact h.frame
  · exact h.takeClear _
  · exact h.takeConfig _ _ _
  · exact h.takeClose _
  · exact h.takeRestart _ straps
  · exact h

theorem receive (f : Frame) (straps : Straps) : (s.receive f straps).ControlKept :=
  have hread : (s.atBitRead fun l => l.endFrame.countGood).ControlKept := h.frame
  have hsilenced : ((s.atBitRead fun l => l.endFrame.countGood).modLink Link.silenced).ControlKept := h.frame
  ite (ite (hsilenced.latchStation .addressClash) (ite (hread.deliver f straps) hread)) h

theorem completeTransmission : s.completeTransmission.ControlKept := by
  unfold State.completeTransmission
  split
  · exact h
  · next k f hsending =>
    have hread : (s.atBitRead fun l => l.complete k).ControlKept := h.frame
    have hcleared : ∀ (u : State) (ch : Channel), u.ControlKept → (u.clearReached f ch).ControlKept :=
      fun u ch hu => ite (hu.modController fun hc => { hc with }) hu
    exact ite (hcleared _ _ (hcleared _ _ hread)) hread

end State.ControlKept

/-! ### Commands and steps -/

theorem act_controlKept {s t : State} {f : State → State} (h : s.ControlKept) (hact : act s f = .next t)
    (hf : (f s).ControlKept) : t.ControlKept := by
  obtain rfl : (if s.supplyLow then s else f s) = t := Host.Outcome.next.inj hact
  exact .ite h hf

theorem execPowerOnReset_controlKept {s t : State} {edge : SupplyEdge} {pins : StrapPins} (h : s.ControlKept)
    (hexec : execPowerOnReset edge pins s = .next t) : t.ControlKept := by
  cases edge with
  | falls => cases hexec; exact State.controlKept_of_reset rfl rfl
  | rises =>
    obtain rfl := Host.Outcome.next.inj hexec
    exact .ite (State.controlKept_of_reset rfl rfl) h

theorem execFilterTimeExpiry_controlKept {s t : State} {pin : AnglePin} {order : List CycleBlock} (h : s.ControlKept)
    (hexec : execFilterTimeExpiry pin order s = .next t) : t.ControlKept := by
  refine act_controlKept h hexec ?_
  split
  · exact h
  · have hrecognised : ∀ n, ((s.elapse n).recognise pin).ControlKept := fun _ => h.frame
    simp only
    split
    · exact hrecognised _
    · exact (hrecognised _).deliverEdge pin _ order

theorem execParkRequestRecognised_controlKept {s t : State} (h : s.ControlKept)
    (hexec : execParkRequestRecognised s = .next t) : t.ControlKept := by
  refine act_controlKept h hexec ?_
  split
  · exact h
  · have hrequest : ∀ n f g, (((s.elapse n).modTimers f).modEngine g).ControlKept := fun _ _ _ => h.frame
    exact .ite (hrequest _ _ _).returnRunning (hrequest _ _ _)

/-- The commands that reach the controllers or the parameters by their operations, and every other command by what it
leaves. -/
theorem exec_controlKept {c : Instr} {s t : State} (h : s.ControlKept) (hexec : exec c s = .next t) : t.ControlKept := by
  cases c with
  | powerOnReset => exact execPowerOnReset_controlKept h hexec
  | filterTimeExpiry => exact execFilterTimeExpiry_controlKept h hexec
  | parkRequestRecognised => exact execParkRequestRecognised_controlKept h hexec
  | parkPinChange => cases hexec; exact h.frame rfl rfl
  | stallTimerExpiry => exact act_controlKept h hexec (.ite (h.elapse _).stall h)
  | crankUnstable => exact act_controlKept h hexec (.ite h.countLoss h)
  | camLost ch => exact act_controlKept h hexec (.ite (h.revolutionTest ch) h)
  | camNoise ch => exact act_controlKept h hexec (.ite (h.noiseTest ch) h)
  | target | status | engine | clear | config | close | restart | faultFrameReceived =>
    exact act_controlKept h hexec (h.receive _ _)
  | framePassedOver | addressClash => exact act_controlKept h hexec (.ite (h.receive _ _) h)
  | targetStale => exact act_controlKept h hexec (.ite h.targetCycleReference h)
  | oilReady | oilLow => exact act_controlKept h hexec (.ite h.oilConditions h)
  | engineStateStale => exact act_controlKept h hexec (.ite h.engineAging h)
  | releaseTimeout ch => exact act_controlKept h hexec (.ite (h.releaseTick ch) h)
  | noReturn ch => exact act_controlKept h hexec (.ite (h.returnTick ch) h)
  | currentSample ch => exact act_controlKept h hexec (.ite ((h.completeSlot.modSense _).openCoilTest ch _) h)
  | oilpSample => exact act_controlKept h hexec (.ite ((h.completeSlot.modSense _).rangeCheck _) h)
  | oilpSensor => exact act_controlKept h hexec (.ite (h.rangeCheck _) h)
  | vsupSample => exact act_controlKept h hexec (.ite ((h.completeSlot.modSense _).evaluateSupply _) h)
  | tdieSample =>
    exact act_controlKept h hexec (.ite (((h.completeSlot.modSense _).evaluateDerate _).evaluateThermalCut _) h)
  | transmissionComplete => exact act_controlKept h hexec h.completeTransmission
  | releaseSuccess ch =>
    dsimp only [exec, execReleaseSuccess] at hexec
    refine act_controlKept h hexec ?_
    split
    · exact h
    · exact .ite (h.releaseProgress ch _) h
  | returnArrival ch =>
    dsimp only [exec, execReturnArrival] at hexec
    refine act_controlKept h hexec ?_
    split
    · exact h
    · exact .ite (h.returnProgress ch _) h
  | nullTransfer ch =>
    dsimp only [exec, execNullTransfer] at hexec
    refine act_controlKept h hexec ?_
    split
    · exact h
    · exact .ite (h.modController fun hc => hc.stationaryUpdate true) h
  | trackError ch =>
    dsimp only [exec, execTrackError] at hexec
    refine act_controlKept h hexec ?_
    split
    · exact h
    · exact .ite (h.trackErrorUpdate ch _) h
  | overcurrent ch =>
    dsimp only [exec, execOvercurrent] at hexec
    refine act_controlKept h hexec ?_
    split
    · exact h
    · exact .ite ((h.elapse _).tripDriver ch) h
  | openCoil ch =>
    dsimp only [exec, execOpenCoil] at hexec
    refine act_controlKept h hexec ?_
    split
    · exact h
    · exact .ite (h.openCoilTest ch _) h
  | _ =>
    dsimp only [exec, execFilterCandidateOpen, execGlitch, execLossFreeRunExpiry, execPeerEntryExpiry,
      execRetryHoldExpiry, execPwmPeriodStart, execOnTimeEnd, execOpenCoilBlankingExpiry, execFrameDiscarded,
      execLinkErrors, execLinkErrorsCleared, execSendStart, execLostArbitration, execBitError, execSlotDrop, execBusStuck,
      execBusStuckCleared, execStatusTimerExpiry, execFaultPulseExpiry, execStartBit, State.discard,
      State.loseArbitration, State.failBit] at hexec
    refine act_controlKept h hexec ?_
    (repeat' split) <;> exact h.frame

theorem step_controlKept {s t : State} (h : s.ControlKept) (hstep : step s = .next t) : t.ControlKept := by
  unfold step at hstep
  split at hstep
  · obtain rfl := Host.Outcome.next.inj hstep
    exact .ite h (h.elapse 1)
  · next rest _ =>
    have hqueue : State.ControlKept { s with pending := rest } := h.frame
    exact exec_controlKept hqueue hstep

/-- Settles O53: every operation keeps the controllers in range; CLEAR and CONFIG do because the null base is. -/
theorem integratorAndNullKept : Obligations.IntegratorAndNullKept := fun s t hparams hcontrol hstep => by
  obtain ⟨hranges, _⟩ := hparams
  have hkept := step_controlKept ⟨(controlBounded_iff s).1 hcontrol, hranges 7 200 800 rfl⟩ hstep
  exact (controlBounded_iff t).2 hkept.controller

end Sys2Proof.Machine
end

section
/-! PROOF. The drivers' items under every step (O54): a driver by itself, and that each block's operations leave its duty as
R120 computes it. A driver with its duty computed anew is one that computing it again leaves as it is. -/

namespace Sys2Proof.Machine

/-! ### A driver by itself (R119, R120, R121, R123, R126) -/

/-- The ranges of the driver's items that hold whatever its command is. -/
structure Driver.InRange (d : Driver) (coil : Nat) : Prop where
  onTime : d.onTime ≤ 2500
  rEst : rEstMin coil ≤ d.rEst ∧ d.rEst ≤ rEstMax coil
  openRun : d.openRun ≤ 3

/-- The duty stands as computed, with the output off at a duty of 0. -/
def Driver.Computed (d : Driver) (duty : Nat → Bool → Nat × Bool) : Prop := d.refresh duty = d

theorem Driver.computed_iff (d : Driver) (duty : Nat → Bool → Nat × Bool) :
    d.Computed duty ↔ (d.duty, d.saturated) = duty d.rEst d.trip ∧ (d.duty = 0 → d.output = false) := by
  obtain ⟨rEst, du, saturated, output, onTime, trip, openRun⟩ := d
  simp only [Driver.Computed, Driver.refresh, Driver.mk.injEq, Prod.ext_iff]
  constructor
  · rintro ⟨-, hduty, hflag, houtput, -⟩
    refine ⟨⟨hduty.symm, hflag.symm⟩, fun hzero => ?_⟩
    simpa [hduty, hzero, eq_comm] using houtput
  · rintro ⟨⟨hduty, hflag⟩, houtput⟩
    refine ⟨trivial, hduty.symm, hflag.symm, ?_, trivial, trivial, trivial⟩
    rw [← hduty]
    by_cases hzero : du = 0
    · simp [houtput hzero]
    · simp [hzero]

theorem Driver.refresh_computed (d : Driver) (duty : Nat → Bool → Nat × Bool) : (d.refresh duty).Computed duty :=
  Driver.refresh_refresh duty d

theorem Driver.atReset_inRange : Driver.atReset.InRange Params.default.coilResistance := by
  constructor <;> decide

section DriverOperations

variable {d : Driver} {coil : Nat} {duty : Nat → Bool → Nat × Bool}

theorem Driver.InRange.refresh (h : d.InRange coil) : (d.refresh duty).InRange coil := ⟨h.onTime, h.rEst, h.openRun⟩

theorem Driver.InRange.withEstimate (h : d.InRange coil) {coil' r : Nat} (hr : rEstMin coil' ≤ r ∧ r ≤ rEstMax coil') :
    Driver.InRange { d with rEst := r } coil' :=
  ⟨h.onTime, hr, h.openRun⟩

theorem Driver.Computed.withOpenRun (h : d.Computed duty) (n : Nat) : Driver.Computed { d with openRun := n } duty :=
  have hcomputed := (Driver.computed_iff _ _).1 h
  (Driver.computed_iff _ _).2 hcomputed

theorem Driver.Computed.outputOff (h : d.Computed duty) : Driver.Computed { d with output := false } duty :=
  have ⟨hduty, _⟩ := (Driver.computed_iff _ _).1 h
  (Driver.computed_iff _ _).2 ⟨hduty, fun _ => rfl⟩

/-- At a period start a duty of 0 leaves the output off, and no duty exceeds the period (R121). -/
theorem Driver.Computed.startPeriod (h : d.Computed duty) : d.startPeriod.Computed duty :=
  have ⟨hduty, _⟩ := (Driver.computed_iff _ _).1 h
  (Driver.computed_iff _ _).2 ⟨hduty, fun hzero => by simp [Driver.startPeriod, show d.duty = 0 from hzero]⟩

theorem Driver.InRange.startPeriod (h : d.InRange coil) (hduty : d.duty ≤ 1000) : d.startPeriod.InRange coil :=
  { h with onTime := by simp only [Driver.startPeriod, onTimeOf]; omega }

/-- A tripped driver is cut, so its duty of 0 stands as computed (R120, R124). -/
theorem Driver.tripped_computed (c : Conditions) (supply : Option Int) (command : Nat) (d : Driver) :
    Driver.Computed { d with output := false, trip := true, duty := 0, saturated := false }
      (dutyUnder c supply command) :=
  (Driver.computed_iff _ _).2
    ⟨((dutyOf_spec command d.rEst (true || c.underVoltage || c.thermalCut) supply).2 (.inr rfl)).symm, fun _ => rfl⟩

/-- The estimate bounds hold the configured resistance (R123). -/
theorem coil_mem_rEst (coil : Nat) : rEstMin coil ≤ coil ∧ coil ≤ rEstMax coil := by
  unfold rEstMin rEstMax
  omega

theorem trimmedEstimate_mem (coil r measured : Nat) :
    rEstMin coil ≤ trimmedEstimate coil r measured ∧ trimmedEstimate coil r measured ≤ rEstMax coil :=
  limitNat_bounds (by have := coil_mem_rEst coil; omega) _

end DriverOperations

/-! ### The drivers in a state -/

/-- Both drivers in range under the configured coil resistance, each with its duty computed from the command, the cuts and the
supply in force. -/
structure State.DriversKept (s : State) : Prop where
  range : ∀ ch, (s.drivers.get ch).InRange s.store.params.coilResistance
  computed : ∀ ch, (s.drivers.get ch).Computed (s.dutyFor (s.command ch))

theorem driversKept_iff (s : State) : Safety.DutyCurrent s ∧ Safety.ResistanceBounded s ↔ s.DriversKept := by
  constructor
  · rintro ⟨hduty, hbounds⟩
    refine ⟨fun ch => ?_, fun ch => ?_⟩
    · obtain ⟨_, _, honTime⟩ := hduty ch
      obtain ⟨hlo, hhi, hrun⟩ := hbounds ch
      exact ⟨honTime, ⟨hlo, hhi⟩, hrun⟩
    · obtain ⟨hcomputed, houtput, _⟩ := hduty ch
      exact (Driver.computed_iff _ _).2 ⟨hcomputed, houtput⟩
  · refine fun h => ⟨fun ch => ?_, fun ch => ?_⟩
    · obtain ⟨hcomputed, houtput⟩ := (Driver.computed_iff _ _).1 (h.computed ch)
      exact ⟨hcomputed, houtput, (h.range ch).onTime⟩
    · obtain ⟨_, ⟨hlo, hhi⟩, hrun⟩ := h.range ch
      exact ⟨hlo, hhi, hrun⟩

/-- What the duties take from the station, and the configured coil resistance, are the same in both states. -/
structure State.SameInputs (s t : State) : Prop where
  underVoltage : t.conditions.underVoltage = s.conditions.underVoltage := by simp
  thermalCut : t.conditions.thermalCut = s.conditions.thermalCut := by simp
  supply : t.sense.supply = s.sense.supply := by simp
  coil : t.store.params.coilResistance = s.store.params.coilResistance := by simp

theorem State.SameInputs.dutyFor {s t : State} (h : s.SameInputs t) : t.dutyFor = s.dutyFor := by
  funext command r trip
  simp only [State.dutyFor, dutyUnder, h.underVoltage, h.thermalCut, h.supply]

theorem State.driversKept_resetWith (s : State) (straps : Straps) : (s.resetWith straps).DriversKept := by
  obtain ⟨range, computed⟩ := (driversKept_iff _).1 ⟨dutyCurrent_reset, resistanceBounded_reset⟩
  exact ⟨range, computed⟩

/-- Both duties computed anew hold whatever has changed before, with the drivers in range (R127, R129). -/
theorem State.computeDuties_kept {s : State} (h : ∀ ch, (s.drivers.get ch).InRange s.store.params.coilResistance) :
    s.computeDuties.DriversKept where
  range := fun ch => by
    rw [s.computeDuties_refreshedFrom ch]
    exact (h ch).refresh
  computed := fun ch => by
    rw [s.computeDuties_refreshedFrom ch]
    exact Driver.refresh_computed _ _

namespace State.DriversKept

variable {s : State} (h : s.DriversKept)
include h

/-- An operation that leaves the drivers, the commands and what the duties take. -/
theorem frame {t : State} (hd : t.drivers = s.drivers := by simp)
    (hc : ∀ ch, t.command ch = s.command ch := by simp [State.command])
    (hi : s.SameInputs t := by exact {}) : t.DriversKept where
  range := by rw [hd, hi.coil]; exact h.range
  computed := fun ch => by rw [hd, hi.dutyFor, hc]; exact h.computed ch

/-- An operation on one channel's driver and command. -/
theorem setDriver {t : State} {ch : Channel} {d : Driver} (hrange : d.InRange s.store.params.coilResistance)
    (hcomputed : d.Computed (s.dutyFor (t.command ch))) (hd : t.drivers = s.drivers.set ch d := by simp)
    (hc : ∀ c, c ≠ ch → t.command c = s.command c := by simp [State.command])
    (hi : s.SameInputs t := by exact {}) : t.DriversKept where
  range := fun c => by
    rw [hd, hi.coil, Pair.get_set]
    split
    · exact hrange
    · exact h.range c
  computed := fun c => by
    rw [hd, hi.dutyFor, Pair.get_set]
    split
    · next hsame => rwa [hsame]
    · next hother => rw [hc c hother]; exact h.computed c

omit h in
theorem ite {p : Prop} [Decidable p] {u v : State} (hu : u.DriversKept) (hv : v.DriversKept) :
    (if p then u else v).DriversKept := by
  split
  · exact hu
  · exact hv

theorem modMeter (ch : Channel) (f : Meter → Meter) : (s.modMeter ch f).DriversKept := h.frame

theorem modSequencer (ch : Channel) (f : Sequencer → Sequencer) : (s.modSequencer ch f).DriversKept := h.frame

theorem modTarget (f : TargetUnit → TargetUnit) : (s.modTarget f).DriversKept := h.frame

theorem modDecoder (f : Decoder → Decoder) : (s.modDecoder f).DriversKept := h.frame

theorem modEngine (f : EngineStore → EngineStore) : (s.modEngine f).DriversKept := h.frame

theorem modController {ch : Channel} {f : Controller → Controller}
    (hf : (f (s.controllers.get ch)).command = (s.controllers.get ch).command) : (s.modController ch f).DriversKept :=
  h.frame (hc := fun c => by
    rw [State.command_modController]
    split
    · next hc => rw [hc, hf]; rfl
    · rfl)

theorem modDriver {ch : Channel} {f : Driver → Driver}
    (hrange : (f (s.drivers.get ch)).InRange s.store.params.coilResistance)
    (hcomputed : (f (s.drivers.get ch)).Computed (s.dutyFor (s.command ch))) : (s.modDriver ch f).DriversKept :=
  h.setDriver hrange hcomputed

theorem modSense {f : Sense → Sense} (hf : (f s.sense).supply = s.sense.supply) : (s.modSense f).DriversKept :=
  h.frame (hi := { supply := hf })

/-! ### Duties, commands, channel states, exits and latches -/

theorem computeDuty (ch : Channel) : (s.computeDuty ch).DriversKept :=
  h.setDriver (h.range ch).refresh (Driver.refresh_computed _ _) rfl

/-- A changed driver whose duty is computed anew (R122, R123, R125). -/
theorem modDriver_computeDuty {ch : Channel} {f : Driver → Driver}
    (hrange : (f (s.drivers.get ch)).InRange s.store.params.coilResistance) :
    ((s.modDriver ch f).computeDuty ch).DriversKept :=
  h.setDriver hrange.refresh (Driver.refresh_computed _ _) (by simp [State.computeDuty_eq]; rfl)

theorem setCommand (ch : Channel) (i : Nat) : (s.setCommand ch i).DriversKept := by
  have hcommand := s.setCommand_command ch
  refine h.setDriver (ch := ch) (d := (s.drivers.get ch).refresh (s.dutyFor i)) (h.range ch).refresh ?_ ?_ fun c hc => ?_
  · rw [hcommand, if_pos rfl]
    exact Driver.refresh_computed _ _
  · rw [State.setCommand_eq]
  · rw [hcommand, if_neg hc]

theorem setChannelState (ch : Channel) (new : ChannelState) : (s.setChannelState ch new).DriversKept := by
  have hleft := h.modSequencer ch fun q => { q with state := new }
  have hwatch := ite (p := s.channelState ch = .parked ∧ new ≠ .parked)
    (hleft.modMeter ch fun m => { m with parkWatch := false }) hleft
  have htarget := ite (p := s.channelState ch = .tracking ∧ new ≠ .tracking)
    (hwatch.modTarget fun t => { t with effective := t.effective.set ch 0 }) hwatch
  cases new with
  | releasing | tracking => exact htarget
  | parked | returning | fault => exact htarget.setCommand ch 0

theorem enterReturning (ch : Channel) : (s.enterReturning ch).DriversKept :=
  have hentered := (h.setChannelState ch .returning).modSequencer ch fun q => { q with returnCount := 0, returnRun := 0 }
  ite hentered (hentered.setChannelState ch .parked)

theorem exitRunning (ch : Channel) : (s.exitRunning ch).DriversKept := ite (h.enterReturning ch) h

theorem returnRunning : s.returnRunning.DriversKept := (h.exitRunning .a).exitRunning .b

theorem latchChannel (ch : Channel) (k : ChannelFault) : (s.latchChannel ch k).DriversKept := by
  have hset : (s.modFaults fun f => { f with channel := f.channel.set ch ((f.channel.get ch).add k) }).DriversKept := h.frame
  exact ite h (hset.setChannelState ch .fault).frame

theorem latchStation (k : StationFault) : (s.latchStation k).DriversKept := by
  refine ite h (State.DriversKept.returnRunning ?_)
  cases k <;> exact h.frame

/-! ### The meters' events -/

theorem revolutionTest (ch : Channel) : (s.revolutionTest ch).DriversKept :=
  ite ((h.modMeter ch _).latchChannel ch .camLost) (h.modMeter ch _)

theorem noiseTest (ch : Channel) : (s.noiseTest ch).DriversKept :=
  ite ((h.modMeter ch _).latchChannel ch .camNoise) (h.modMeter ch _)

theorem parkLearning (ch : Channel) : (s.parkLearning ch).DriversKept :=
  ite (ite (h.modMeter ch _) (h.latchChannel ch .parkOffsetRange)) h

theorem meterCycleReference (ch : Channel) : (s.meterCycleReference ch).DriversKept :=
  (((h.parkLearning ch).modMeter ch _).noiseTest ch).modMeter ch _

/-! ### The channels' events -/

theorem startRelease (ch : Channel) : (s.startRelease ch).DriversKept :=
  ((h.setChannelState ch .releasing).modSequencer ch _).setCommand ch _

theorem enterTracking (ch : Channel) (phase : Int) : (s.enterTracking ch phase).DriversKept :=
  ((((h.setChannelState ch .tracking).modSequencer ch _).modTarget _).modController (f := Controller.startTracking)
    rfl).setCommand ch _

theorem releaseProgress (ch : Channel) (phase : Int) : (s.releaseProgress ch phase).DriversKept :=
  ite ((h.modSequencer ch _).enterTracking ch phase) (h.modSequencer ch _)

theorem returnProgress (ch : Channel) (phase : Int) : (s.returnProgress ch phase).DriversKept :=
  ite ((h.modSequencer ch _).setChannelState ch .parked) (h.modSequencer ch _)

theorem trackErrorUpdate (ch : Channel) (e : Int) : (s.trackErrorUpdate ch e).DriversKept := by
  have hcounted : (s.trackErrorCounted ch e).DriversKept := h.modController rfl
  rw [State.trackErrorUpdate_eq]
  exact ite (hcounted.latchChannel ch .trackError) hcounted

theorem reachedTest (ch : Channel) (e : Int) : (s.reachedTest ch e).DriversKept :=
  ite ((h.modTarget _).modController rfl) h

/-- Of an update's steps one sets the command, and no other reaches it. -/
theorem controlUpdate (ch : Channel) (phase : Int) : (s.controlUpdate ch phase).DriversKept := by
  rw [State.controlUpdate_eq_trackErrorUpdate]
  have hcommanded := ((h.modController (ch := ch) (f := fun c => { c with integrator := (s.updateOutput ch phase).1 })
    rfl).setCommand ch (s.updateOutput ch phase).2).modController (ch := ch)
      (f := fun c => { c with lastError := some (s.updateError ch phase) }) rfl
  exact ((hcommanded.reachedTest ch _).modController (Controller.stationaryUpdate_command _ _)).trackErrorUpdate ch _

theorem trackingEvent (ch : Channel) (phase : Int) : (s.trackingEvent ch phase).DriversKept :=
  ite ((h.modTarget _).enterReturning ch) ((h.modTarget _).controlUpdate ch phase)

theorem phaseMeasured (ch : Channel) (phase : Int) : (s.phaseMeasured ch phase).DriversKept := by
  unfold State.phaseMeasured
  split
  · exact ite (h.startRelease ch) h
  · exact h.releaseProgress ch phase
  · exact h.trackingEvent ch phase
  · exact h.returnProgress ch phase
  · exact h

theorem releaseTick (ch : Channel) : (s.releaseTick ch).DriversKept :=
  have htimed := (h.modSequencer ch fun q => { q with releaseCount := bump 8 (s.sequencers.get ch).releaseCount }).modSequencer
    ch fun q => { q with attempts := q.attempts - 1, retryHold := 2 }
  ite (ite (htimed.latchChannel ch .lockStuck) (htimed.setChannelState ch .parked)) (h.modSequencer ch _)

theorem returnTick (ch : Channel) : (s.returnTick ch).DriversKept :=
  ite ((h.modSequencer ch _).latchChannel ch .noReturn) (h.modSequencer ch _)

theorem sequencerTick (ch : Channel) : (s.sequencerTick ch).DriversKept := by
  cases hstate : s.channelState ch with
  | parked =>
    rw [State.sequencerTick_of_parked hstate]
    exact ite h (h.modSequencer ch _)
  | releasing =>
    rw [State.sequencerTick_of_releasing hstate]
    exact h.releaseTick ch
  | returning =>
    rw [State.sequencerTick_of_returning hstate]
    exact h.returnTick ch
  | tracking => rwa [State.sequencerTick_of_other (.inl hstate)]
  | fault => rwa [State.sequencerTick_of_other (.inr hstate)]

theorem engineAging : s.engineAging.DriversKept := ite (h.modEngine _).returnRunning (h.modEngine _)

/-! ### The cycle reference at every block (R122) -/

/-- A trim leaves the estimate within its bounds (R123). -/
theorem resistanceTrim (ch : Channel) : (s.resistanceTrim ch).DriversKept := by
  unfold State.resistanceTrim
  split
  · exact h
  · exact h.modDriver_computeDuty ((h.range ch).withEstimate (trimmedEstimate_mem _ _ _))

theorem targetCycleReference : s.targetCycleReference.DriversKept := ite (h.modTarget _).returnRunning (h.modTarget _)

theorem oilConditions : s.oilConditions.DriversKept :=
  have hevaluated : s.evaluateOil.DriversKept := h.frame
  ite hevaluated.returnRunning hevaluated

theorem oilCycleReference : s.oilCycleReference.DriversKept :=
  have hformed : s.evaluateOil.budgetCompute.DriversKept := h.frame
  ite hformed.returnRunning hformed

theorem sequencerCycleReference : s.sequencerCycleReference.DriversKept := by
  rw [State.sequencerCycleReference, State.eachChannel_def]
  exact (h.engineAging.sequencerTick .a).sequencerTick .b

theorem takeCycleReference (b : CycleBlock) : (s.takeCycleReference b).DriversKept := by
  cases b with
  | meterA => exact h.meterCycleReference .a
  | meterB => exact h.meterCycleReference .b
  | target => exact h.targetCycleReference
  | oil => exact h.oilCycleReference
  | sequencer => exact h.sequencerCycleReference
  | driverA => exact h.resistanceTrim .a
  | driverB => exact h.resistanceTrim .b
  | statusAssembly => unfold State.takeCycleReference; exact h.frame

theorem cycleReference (order : List CycleBlock) : (s.cycleReference order).DriversKept := by
  unfold State.cycleReference
  generalize blockOrder order = blocks
  induction blocks generalizing s with
  | nil => exact h
  | cons b bs ih => exact ih (h.takeCycleReference b)

/-! ### The decoder's events -/

theorem channelSyncLost (ch : Channel) : (s.channelSyncLost ch).DriversKept := by
  unfold State.channelSyncLost
  split
  · exact h
  · exact h.enterReturning ch
  · exact h.enterReturning ch
  · exact h.setChannelState ch .parked
  · exact h

theorem publishSyncLost : s.publishSyncLost.DriversKept := by
  have hunits : ((((s.modMeter .a Meter.syncLost).modMeter .b Meter.syncLost).modTarget TargetUnit.syncReset).modOil
      OilUnit.syncLost).DriversKept := h.frame
  exact ((hunits.channelSyncLost .a).channelSyncLost .b).frame rfl (fun _ => rfl)

theorem publishRevolution : s.publishRevolution.DriversKept := (h.revolutionTest .a).revolutionTest .b

theorem countLoss : s.countLoss.DriversKept := ite ((h.modDecoder _).latchStation .crankUnstable) (h.modDecoder _)

theorem toothError (t : Tick) : (s.toothError t).DriversKept := (h.modDecoder _).publishSyncLost.countLoss

theorem closeRevolution (t : Tick) (order : List CycleBlock) : (s.closeRevolution t order).DriversKept := by
  unfold State.closeRevolution
  split
  · exact (h.modDecoder _).publishRevolution
  · exact (h.modDecoder _).publishRevolution.cycleReference order
  · exact (h.modDecoder _).publishRevolution

theorem syncedEdge (t : Tick) (order : List CycleBlock) : (s.syncedEdge t order).DriversKept := by
  simp only [State.syncedEdge]
  split
  · exact ite (ite (h.modDecoder _) (h.toothError t)) (ite (h.closeRevolution t order) (h.toothError t))
  · exact h.toothError t

theorem seekEdge (t : Tick) : (s.seekEdge t).DriversKept := by
  have hgained : (s.gainRevSync t).DriversKept := h.frame (hi := { coil := rfl })
  simp only [State.seekEdge]
  split
  · exact h.modDecoder _
  · exact ite hgained (h.modDecoder _)

theorem crankEdge (t : Tick) (order : List CycleBlock) : (s.crankEdge t order).DriversKept := by
  refine ite h ?_
  split
  · exact h.modDecoder _
  · exact h.seekEdge t
  · exact h.syncedEdge t order
  · exact h.syncedEdge t order

theorem stall : s.stall.DriversKept := by
  unfold State.stall
  split
  · exact h
  · exact h.modDecoder _
  · exact (h.modDecoder _).publishSyncLost
  · exact (h.modDecoder _).publishSyncLost

theorem measureEdge (ch : Channel) (angle : Nat) : (s.measureEdge ch angle).DriversKept := by
  simp only [State.measureEdge]
  split
  · exact h.modMeter ch _
  · exact ite (h.modMeter ch _) ((h.modMeter ch _).phaseMeasured ch _)

theorem captureEdge (ch : Channel) (angle : Option Nat) : (s.captureEdge ch angle).DriversKept := by
  have hseen := h.modMeter ch fun m => { m with edgeSeen := true, missing := 0 }
  cases angle with
  | none => exact hseen
  | some a => exact hseen.measureEdge ch a

theorem camEdge (ch : Channel) (t : Tick) : (s.camEdge ch t).DriversKept := by
  have hgained : ∀ f g, ((s.modDecoder f).modDecoder g).publishCycleSync.DriversKept := fun _ _ => h.frame
  simp only [State.camEdge]
  split
  · exact h
  · exact h
  · exact ite ((hgained _ _).captureEdge ch _) ((h.modDecoder _).captureEdge ch none)
  · exact ite (((h.modDecoder _).modDecoder _).publishSyncLost.captureEdge ch none).countLoss
      ((h.modDecoder _).captureEdge ch _)

theorem deliverEdge (pin : AnglePin) (t : Tick) (order : List CycleBlock) : (s.deliverEdge pin t order).DriversKept := by
  unfold State.deliverEdge
  split
  · exact h.crankEdge t order
  · exact h.camEdge _ t

/-! ### The passage of time, the drivers' events and the samples -/

theorem elapse (n : Nat) : (s.elapse n).DriversKept := h.frame

theorem completeSlot : s.completeSlot.DriversKept := h.frame

/-- A duty is at most 1000, whose on-time is the whole period (R120, R121). -/
theorem startPeriod (ch : Channel) : (s.modDriver ch Driver.startPeriod).DriversKept := by
  obtain ⟨hduty, _⟩ := (Driver.computed_iff _ _).1 (h.computed ch)
  have hle : (s.drivers.get ch).duty ≤ 1000 := by
    have hfirst : (s.drivers.get ch).duty = _ := congrArg Prod.fst hduty
    rw [hfirst]
    exact (dutyOf_spec _ _ _ _).1
  exact h.modDriver ((h.range ch).startPeriod hle) (h.computed ch).startPeriod

theorem endOnTime (ch : Channel) : (s.modDriver ch fun d => { d with output := false }).DriversKept :=
  h.modDriver { h.range ch with } (h.computed ch).outputOff

theorem tripDriver (ch : Channel) : (s.tripDriver ch).DriversKept := by
  have htripped : (s.modDriver ch fun d =>
      { d with output := false, trip := true, duty := 0, saturated := false }).DriversKept :=
    h.modDriver { h.range ch with } (Driver.tripped_computed _ _ _ _)
  exact htripped.latchChannel ch .overcurrent

/-- The fourth low sample in a row restarts the run, which stays below 4 (R126). -/
theorem openCoilTest (ch : Channel) (sample : Nat) : (s.openCoilTest ch sample).DriversKept := by
  have hrun : ∀ n ≤ 3, (s.modDriver ch fun d => { d with openRun := n }).DriversKept := fun n hn =>
    h.modDriver { h.range ch with openRun := hn } ((h.computed ch).withOpenRun n)
  have hcleared := hrun 0 (Nat.zero_le _)
  unfold State.openCoilTest
  refine ite ?_ hcleared
  split
  · exact hcleared.latchChannel ch .openCoil
  · exact hrun _ (by omega)

theorem evaluateDerate (θ : Int) : (s.evaluateDerate θ).DriversKept := by
  have hlimit : ∀ (u : State) (ch : Channel), u.DriversKept → (u.limitCommand ch).DriversKept := fun u ch hu => by
    unfold State.limitCommand
    split
    · exact hu.setCommand ch _
    · exact ite (hu.setCommand ch _) hu
    · exact hu
    · exact hu
    · exact hu
  have hset : (s.modConditions fun c => { c with derate := derateAfter s.conditions.derate θ }).DriversKept := h.frame
  exact ite h (((hlimit _ .b (hlimit _ .a hset)).computeDuty .a).computeDuty .b)

theorem evaluateThermalCut (θ : Int) : (s.evaluateThermalCut θ).DriversKept := by
  have hcomputed : ∀ f, (s.modConditions f).computeDuties.DriversKept := fun _ => State.computeDuties_kept h.range
  exact ite h (ite (hcomputed _).returnRunning (hcomputed _))

theorem evaluateTemperature (θ : Int) : (s.evaluateTemperature θ).DriversKept := (h.evaluateDerate θ).evaluateThermalCut θ

/-- A new supply has both duties computed anew (R139). -/
theorem sampleSupply (v : Int) (n : Sense) : ((s.sampled n).evaluateSupply v).DriversKept := by
  have hcomputed : ∀ f, ((s.sampled n).modConditions f).computeDuties.DriversKept :=
    fun _ => State.computeDuties_kept h.range
  exact ite (hcomputed _).returnRunning (hcomputed _)

theorem rangeCheck (code : Code12) : (s.rangeCheck code).DriversKept :=
  ite (h.modSense rfl) (ite ((h.modSense (f := fun n => { n with rangeRun := 0 }) rfl).latchStation .oilpSensor)
    (h.modSense rfl))

/-! ### Frames (R123, R125) -/

theorem engineArrival (code : Word16) : (s.engineArrival code).DriversKept := by
  simp only [State.engineArrival]
  split
  · exact h.modEngine _
  · exact (h.modEngine _).returnRunning

/-- A relearn loads the configured resistance (R123). -/
theorem relearn (ch : Channel) : (s.relearn ch).DriversKept := by
  have hlearned := (h.modMeter ch Meter.relearn).modController (ch := ch)
    (f := fun c => { c with learnedNull := s.store.params.nullBase }) rfl
  exact ite (hlearned.modDriver_computeDuty ((hlearned.range ch).withEstimate (coil_mem_rEst _))) h

theorem sequencerClear (ch : Channel) : (s.sequencerClear ch).DriversKept :=
  ite ((h.modSequencer ch _).setChannelState ch .parked) (h.modSequencer ch _)

/-- A trip that clears has the duty computed anew (R125). -/
theorem clearChannel (relearn : Bool) (ch : Channel) : (s.clearChannel relearn ch).DriversKept := by
  have hemptied : (s.modFaults fun f => { f with channel := f.channel.set ch ChannelFaults.empty }).DriversKept := h.frame
  have hcleared := hemptied.sequencerClear ch
  have huntripped := hcleared.modDriver_computeDuty (f := fun d => { d with trip := false }) { hcleared.range ch with }
  have htrip := ite (p := (s.faults.channel.get ch).overcurrent = true) huntripped hcleared
  exact ite (htrip.relearn ch) htrip

theorem takeClear (w : Word16) : (s.takeClear w).DriversKept := by
  have ha := ite (p := (readScope w).covers .a = true) (h.clearChannel (readRelearn w) .a) h
  have hb := ite (p := (readScope w).covers .b = true) (ha.clearChannel (readRelearn w) .b) ha
  exact ite hb.frame hb

/-- A store of parameter 9 changes the configured resistance and both estimates alike, with their duties (R123). -/
theorem stored {id : Nat} (hid : id < 20) (v : Nat) : (s.stored id v).DriversKept := by
  have hcoil : (s.stored id v).store.params.coilResistance = if 9 = id then v else s.store.params.coilResistance :=
    s.stored_get hid v 9
  have hcommand : ∀ ch, (s.stored id v).command ch = s.command ch := fun ch => by
    rw [State.command, State.stored_controller]
    split <;> rfl
  have hduty : (s.stored id v).dutyFor = s.dutyFor := by rw [State.stored_frame]; rfl
  refine ⟨fun ch => ?_, fun ch => ?_⟩
  · rw [hcoil, State.stored_driver]
    by_cases hnine : id = 9
    · rw [if_pos hnine, if_pos hnine.symm]
      exact ((h.range ch).withEstimate (coil_mem_rEst v)).refresh
    · rw [if_neg hnine, if_neg (Ne.symm hnine)]
      exact h.range ch
  · rw [hduty, hcommand, State.stored_driver]
    split
    · exact Driver.refresh_computed _ _
    · exact h.computed ch

theorem takeConfig (addressed : Bool) (id value : Word16) : (s.takeConfig addressed id value).DriversKept := by
  unfold State.takeConfig
  refine ite ?_ h
  split
  · exact h
  · next hrange => exact h.stored (lt_of_paramRange hrange) _

theorem takeClose (addressed : Bool) : (s.takeClose addressed).DriversKept := ite (h.frame (hi := { coil := rfl })) h

theorem takeRestart (addressed : Bool) (straps : Straps) : (s.takeRestart addressed straps).DriversKept :=
  ite (s.driversKept_resetWith straps) h

theorem deliver (f : Frame) (straps : Straps) : (s.deliver f straps).DriversKept := by
  unfold State.deliver
  split
  · exact h.modTarget _
  · exact h.engineArrival _
  · exact h.frame
  · exact h.takeClear _
  · exact h.takeConfig _ _ _
  · exact h.takeClose _
  · exact h.takeRestart _ straps
  · exact h

theorem receive (f : Frame) (straps : Straps) : (s.receive f straps).DriversKept :=
  have hread : (s.atBitRead fun l => l.endFrame.countGood).DriversKept := h.frame
  have hsilenced : ((s.atBitRead fun l => l.endFrame.countGood).modLink Link.silenced).DriversKept := h.frame
  ite (ite (hsilenced.latchStation .addressClash) (ite (hread.deliver f straps) hread)) h

theorem completeTransmission : s.completeTransmission.DriversKept := by
  unfold State.completeTransmission
  split
  · exact h
  · next k f hsending =>
    have hread : (s.atBitRead fun l => l.complete k).DriversKept := h.frame
    have hcleared : ∀ (u : State) (ch : Channel), u.DriversKept → (u.clearReached f ch).DriversKept :=
      fun u ch hu => ite (hu.modController rfl) hu
    exact ite (hcleared _ _ (hcleared _ _ hread)) hread

end State.DriversKept

/-! ### Commands and steps -/

section Commands

variable {s t : State} (h : s.DriversKept)
include h

theorem act_driversKept {f : State → State} (hact : act s f = .next t) (hf : (f s).DriversKept) : t.DriversKept := by
  obtain rfl : (if s.supplyLow then s else f s) = t := Host.Outcome.next.inj hact
  exact .ite h hf

theorem execPowerOnReset_driversKept {edge : SupplyEdge} {pins : StrapPins} (hexec : execPowerOnReset edge pins s = .next t) :
    t.DriversKept := by
  cases edge with
  | falls =>
    cases hexec
    exact (s.driversKept_resetWith s.straps).frame rfl (fun _ => rfl)
  | rises =>
    obtain rfl := Host.Outcome.next.inj hexec
    exact .ite (s.driversKept_resetWith _) h

theorem execFilterTimeExpiry_driversKept {pin : AnglePin} {order : List CycleBlock}
    (hexec : execFilterTimeExpiry pin order s = .next t) : t.DriversKept := by
  refine act_driversKept h hexec ?_
  split
  · exact h
  · have hrecognised : ∀ n, ((s.elapse n).recognise pin).DriversKept := fun _ => h.frame
    simp only
    split
    · exact hrecognised _
    · exact (hrecognised _).deliverEdge pin _ order

theorem execParkRequestRecognised_driversKept (hexec : execParkRequestRecognised s = .next t) : t.DriversKept := by
  refine act_driversKept h hexec ?_
  split
  · exact h
  · have hrequest : ∀ n f g, (((s.elapse n).modTimers f).modEngine g).DriversKept := fun _ _ _ => h.frame
    exact .ite (hrequest _ _ _).returnRunning (hrequest _ _ _)

theorem execPwmPeriodStart_driversKept {ch : Channel} (hexec : execPwmPeriodStart ch s = .next t) : t.DriversKept := by
  have hbegun : ∀ n f, ((s.elapse n).modTimers f).DriversKept := fun _ _ => h.frame
  exact act_driversKept h hexec ((hbegun _ _).startPeriod ch)

theorem execVsupSample_driversKept {code : Code12} (hexec : execVsupSample code s = .next t) : t.DriversKept := by
  simp only [execVsupSample, State.completeSlot_modSense] at hexec
  exact act_driversKept h hexec (.ite (h.sampleSupply _ _) h)

/-- The commands that reach a driver, its command or what its duty takes by their operations, and every other command by what it
leaves. -/
theorem exec_driversKept {c : Instr} (hexec : exec c s = .next t) : t.DriversKept := by
  cases c with
  | powerOnReset => exact execPowerOnReset_driversKept h hexec
  | filterTimeExpiry => exact execFilterTimeExpiry_driversKept h hexec
  | parkRequestRecognised => exact execParkRequestRecognised_driversKept h hexec
  | vsupSample => exact execVsupSample_driversKept h hexec
  | parkPinChange => cases hexec; exact h.frame rfl (fun _ => rfl)
  | stallTimerExpiry => exact act_driversKept h hexec (.ite (h.elapse _).stall h)
  | crankUnstable => exact act_driversKept h hexec (.ite h.countLoss h)
  | camLost ch => exact act_driversKept h hexec (.ite (h.revolutionTest ch) h)
  | camNoise ch => exact act_driversKept h hexec (.ite (h.noiseTest ch) h)
  | target | status | engine | clear | config | close | restart | faultFrameReceived =>
    exact act_driversKept h hexec (h.receive _ _)
  | framePassedOver | addressClash => exact act_driversKept h hexec (.ite (h.receive _ _) h)
  | targetStale => exact act_driversKept h hexec (.ite h.targetCycleReference h)
  | oilReady | oilLow => exact act_driversKept h hexec (.ite h.oilConditions h)
  | engineStateStale => exact act_driversKept h hexec (.ite h.engineAging h)
  | releaseTimeout ch => exact act_driversKept h hexec (.ite (h.releaseTick ch) h)
  | noReturn ch => exact act_driversKept h hexec (.ite (h.returnTick ch) h)
  | pwmPeriodStart => exact execPwmPeriodStart_driversKept h hexec
  | onTimeEnd ch => exact act_driversKept h hexec (.ite ((h.elapse _).endOnTime ch) h)
  | currentSample ch =>
    exact act_driversKept h hexec (.ite ((h.completeSlot.modSense rfl).openCoilTest ch _) h)
  | oilpSample => exact act_driversKept h hexec (.ite ((h.completeSlot.modSense rfl).rangeCheck _) h)
  | oilpSensor => exact act_driversKept h hexec (.ite (h.rangeCheck _) h)
  | tdieSample => exact act_driversKept h hexec (.ite ((h.completeSlot.modSense rfl).evaluateTemperature _) h)
  | transmissionComplete => exact act_driversKept h hexec h.completeTransmission
  | releaseSuccess ch =>
    dsimp only [exec, execReleaseSuccess] at hexec
    refine act_driversKept h hexec ?_
    split
    · exact h
    · exact .ite (h.releaseProgress ch _) h
  | returnArrival ch =>
    dsimp only [exec, execReturnArrival] at hexec
    refine act_driversKept h hexec ?_
    split
    · exact h
    · exact .ite (h.returnProgress ch _) h
  | nullTransfer ch =>
    dsimp only [exec, execNullTransfer] at hexec
    refine act_driversKept h hexec ?_
    split
    · exact h
    · exact .ite (h.modController (Controller.stationaryUpdate_command _ _)) h
  | trackError ch =>
    dsimp only [exec, execTrackError] at hexec
    refine act_driversKept h hexec ?_
    split
    · exact h
    · exact .ite (h.trackErrorUpdate ch _) h
  | overcurrent ch =>
    dsimp only [exec, execOvercurrent] at hexec
    refine act_driversKept h hexec ?_
    split
    · exact h
    · exact .ite ((h.elapse _).tripDriver ch) h
  | openCoil ch =>
    dsimp only [exec, execOpenCoil] at hexec
    refine act_driversKept h hexec ?_
    split
    · exact h
    · exact .ite (h.openCoilTest ch _) h
  | _ =>
    dsimp only [exec, execFilterCandidateOpen, execGlitch, execLossFreeRunExpiry, execPeerEntryExpiry,
      execRetryHoldExpiry, execOpenCoilBlankingExpiry, execFrameDiscarded,
      execLinkErrors, execLinkErrorsCleared, execSendStart, execLostArbitration, execBitError, execSlotDrop, execBusStuck,
      execBusStuckCleared, execStatusTimerExpiry, execFaultPulseExpiry, execStartBit, State.discard,
      State.loseArbitration, State.failBit] at hexec
    refine act_driversKept h hexec ?_
    (repeat' split) <;> exact h.frame

theorem step_driversKept (hstep : step s = .next t) : t.DriversKept := by
  unfold step at hstep
  split at hstep
  · obtain rfl := Host.Outcome.next.inj hstep
    exact .ite h (h.elapse 1)
  · next rest _ =>
    have hqueue : State.DriversKept { s with pending := rest } := h.frame
    exact exec_driversKept hqueue hstep

end Commands

/-- The quotient of R120, limited to 1000 with the flag set where it exceeds 1000. -/
theorem dutyOf_eq (command rEst : Nat) (cut : Bool) (v : Nat) :
    dutyOf command rEst cut (some v) =
      if command = 0 ∨ cut = true then (0, false)
      else (min 1000 (command * rEst * 10 / v), decide (1000 < command * rEst * 10 / v)) := by
  unfold dutyOf
  split
  · rfl
  · simp only [Int.toNat_natCast]
    split
    · next hover => simp [hover, hover.le]
    · next hwithin => simp [hwithin, Nat.le_of_not_lt hwithin]

theorem dutyOf_none (command rEst : Nat) (cut : Bool) : dutyOf command rEst cut none = (0, false) := by
  unfold dutyOf
  split <;> rfl

/-- Settles O54: the computation as an equation, and every operation leaves the drivers in range with their duties computed. -/
theorem driverRulesKept : Obligations.DriverRulesKept :=
  ⟨fun command rEst cut v => ⟨dutyOf_eq command rEst cut v, dutyOf_none command rEst cut⟩,
    fun s t hduty hbounds hstep =>
      (driversKept_iff t).2 (step_driversKept ((driversKept_iff s).1 ⟨hduty, hbounds⟩) hstep)⟩

end Sys2Proof.Machine
end

section
/-! PROOF. The drivers' commands: the PWM period (O29), the overcurrent trip (O30), the open-coil test (O31) and the resistance
trim at the cycle reference (O32). -/

namespace Sys2Proof.Machine

/-! ### The PWM period (R121, R124) -/

/-- The ticks to a period start bring exactly that start, at 0 for channel A and at 1250 for channel B (R121). -/
theorem pwm_at_periodStart {ch : Channel} {pwm : Nat} (h : pwm < 2500) :
    (pwm + (2500 - ticksIntoPeriod ch pwm)) % 2500 = match ch with | .a => 0 | .b => 1250 := by
  cases ch <;> simp only [ticksIntoPeriod] <;> omega

theorem Driver.unbroken_iff (d : Driver) : d.unbroken = true ↔ d.output = true ∧ 2500 ≤ d.onTime := by
  simp [Driver.unbroken]

theorem Pair.ite_set {α : Type} (p : Pair α) (ch : Channel) (c : Prop) [Decidable c] (v : α) :
    (if c then p else p.set ch v) = p.set ch (if c then p.get ch else v) := by
  split
  · exact (p.set_get_same ch).symm
  · rfl

section Period

variable {s : State} (hsupply : s.supplyLow = false) (ch : Channel)
include hsupply

/-- The comparator's time starts with the period, unless the output was on across the boundary (R124). -/
theorem exec_pwmPeriodStart_eq :
    exec (.pwmPeriodStart ch) s =
      .next
        (let u := s.elapse (s.ticksToPeriod ch)
        (u.modTimers fun t =>
          { t with
            periodsOwed := t.periodsOwed.set ch (t.periodsOwed.get ch - 1)
            sinceOn :=
              t.sinceOn.set ch
                (if (s.drivers.get ch).output = true ∧ 2500 ≤ (s.drivers.get ch).onTime then t.sinceOn.get ch
                else min 80 (ticksIntoPeriod ch t.pwm)) }).modDriver ch Driver.startPeriod) := by
  simp only [exec, execPwmPeriodStart, act_of_live hsupply, Driver.unbroken_iff, Pair.ite_set]

theorem exec_onTimeEnd_of_off (h : (s.drivers.get ch).output = false ∨ 2500 ≤ (s.drivers.get ch).onTime) :
    exec (.onTimeEnd ch) s = .next s := by
  have hends : ¬((s.drivers.get ch).output = true ∧ (s.drivers.get ch).onTime < 2500) := by
    rintro ⟨hon, hpart⟩
    rcases h with hoff | hwhole
    · simp [hoff] at hon
    · omega
  simp only [exec, execOnTimeEnd, act_of_live hsupply, if_neg hends]

theorem exec_onTimeEnd_of_on (hon : (s.drivers.get ch).output = true) (hpart : (s.drivers.get ch).onTime < 2500) :
    exec (.onTimeEnd ch) s =
      .next
        ((s.elapse
          (if s.timers.periodsOwed.get ch = 0 then (s.drivers.get ch).onTime - ticksIntoPeriod ch s.timers.pwm
          else 0)).modDriver ch fun d => { d with output := false }) := by
  simp only [exec, execOnTimeEnd, act_of_live hsupply, if_pos (And.intro hon hpart), ticksLeft]

end Period

/-- Settles O29: the timer at a period start, and each command by its equation. -/
theorem pwmPeriod : Obligations.PwmPeriod := by
  intro ch s hsupply hpwm d into owed u
  have hinto : into = ticksIntoPeriod ch := by cases ch <;> rfl
  refine ⟨fun howed => ?_, ?_, exec_onTimeEnd_of_off hsupply ch, fun hon hpart => ?_⟩
  · have htimers : u.timers = s.timers.advance (2500 - into s.timers.pwm) := by
      rw [State.elapse_timers, if_pos howed]
    rw [htimers, hinto]
    exact pwm_at_periodStart hpwm
  · rw [exec_pwmPeriodStart_eq hsupply, ← hinto]
    simp only [State.ticksToPeriod, ← hinto]
    rfl
  · rw [exec_onTimeEnd_of_on hsupply ch hon hpart, ← hinto]

/-! ### The overcurrent trip (R124) -/

/-- Settles O30: the comparator's run by whether it can be completed. -/
theorem overcurrentTrip : Obligations.OvercurrentTrip := by
  intro ch current s hsupply d left last runs
  have hrun : s.comparatorRun ch = if runs then some left else none := by cases ch <;> rfl
  have hexec : exec (.overcurrent ch current) s =
      .next (if runs ∧ s.store.params.overcurrent < current then (s.elapse left).tripDriver ch else s) := by
    simp only [exec, execOvercurrent, act_of_live hsupply, hrun]
    by_cases h : runs <;> simp [h]
  refine ⟨fun h habove => ?_, fun hnot => ?_⟩
  · rw [hexec, if_pos ⟨h, habove⟩]
    rfl
  · have hstays : ¬(runs ∧ s.store.params.overcurrent < current) := fun ⟨h, habove⟩ =>
      hnot.elim (· h) (Nat.not_le.2 habove)
    rw [hexec, if_neg hstays]

/-! ### The open-coil test (R126) -/

theorem State.lowCurrent_iff (s : State) (ch : Channel) (i : Nat) :
    s.lowCurrent ch i = true ↔
      200 ≤ s.command ch ∧ s.driverCut ch = false ∧ s.timers.blanking.get ch = none ∧ i < s.command ch / 8 := by
  simp [State.lowCurrent, and_assoc]

section OpenCoil

variable {s : State} {ch : Channel} {i : Nat}

theorem State.openCoilTest_of_fourth (hlow : s.lowCurrent ch i = true) (hrun : 3 ≤ (s.drivers.get ch).openRun) :
    s.openCoilTest ch i = (s.modDriver ch fun d => { d with openRun := 0 }).latchChannel ch .openCoil := by
  rw [State.openCoilTest, if_pos hlow, if_pos (by omega)]

theorem State.openCoilTest_of_low (hlow : s.lowCurrent ch i = true) (hrun : (s.drivers.get ch).openRun < 3) :
    s.openCoilTest ch i = s.modDriver ch fun d => { d with openRun := d.openRun + 1 } := by
  rw [State.openCoilTest, if_pos hlow, if_neg (by omega)]

theorem State.openCoilTest_of_not_low (hlow : ¬s.lowCurrent ch i = true) :
    s.openCoilTest ch i = s.modDriver ch fun d => { d with openRun := 0 } := by
  rw [State.openCoilTest, if_neg hlow]

end OpenCoil

/-- Settles O31: a sample in its slot's turn by the three cases of the test, one out of turn, the fourth low one, and the end of
the blanking. -/
theorem openCoilCommands : Obligations.OpenCoilCommands := by
  intro ch code sample s hsupply due low tested
  have hlow : ∀ u i, low u i ↔ u.lowCurrent ch i = true := fun u i => (u.lowCurrent_iff ch i).symm
  have hdue : due ↔ s.slotDue (currentInput ch) = true := by cases ch <;> exact Iff.rfl
  have htested : ∀ u i, tested u i (u.openCoilTest ch i) := fun u i =>
    ⟨fun h hrun => State.openCoilTest_of_fourth ((hlow u i).1 h) hrun,
      fun h hrun => State.openCoilTest_of_low ((hlow u i).1 h) hrun,
      fun h => State.openCoilTest_of_not_low ((hlow u i).not.1 h)⟩
  refine ⟨fun h => ⟨_, ?_, htested _ _⟩, fun h => ?_, fun hsample h hrun => ?_, fun n hblanking => ?_⟩
  · simp only [exec, execCurrentSample, act_of_live hsupply, hdue.1 h, if_true]
    rfl
  · simp only [exec, execCurrentSample, act_of_live hsupply, if_neg (hdue.not.1 h)]
  · have hcurrent := (hlow s sample).1 h
    simp only [exec, execOpenCoil, act_of_live hsupply, hsample]
    rw [if_pos ⟨hcurrent, by omega⟩, State.openCoilTest_of_fourth hcurrent hrun]
  · simp only [exec, execOpenCoilBlankingExpiry, act_of_live hsupply, hblanking, ticksLeft, millisecond]

/-! ### The resistance trim (R122, R123) -/

/-- The conditions of a trim with the supply and the current that it measures by (R122). -/
def State.TrimAble (s : State) (ch : Channel) (v : Int) (i : Nat) : Prop :=
  s.sense.supply = some v ∧ s.sense.currents.get ch = some i ∧ s.channelState ch = .tracking ∧
    100 ≤ (s.drivers.get ch).duty ∧ (s.drivers.get ch).duty ≤ 900 ∧ 100 ≤ i

theorem State.trimMeasure_of_able {s : State} {ch : Channel} {v : Int} {i : Nat} (h : s.TrimAble ch v i) :
    s.trimMeasure ch = some (measuredResistance v (s.drivers.get ch).duty i) := by
  obtain ⟨hsupply, hcurrent, hconditions⟩ := h
  simp only [State.trimMeasure, hsupply, hcurrent, if_pos hconditions]

theorem State.trimMeasure_of_not_able {s : State} {ch : Channel} (h : ∀ v i, ¬s.TrimAble ch v i) :
    s.trimMeasure ch = none := by
  unfold State.trimMeasure
  split
  · next v i hsupply hcurrent => exact if_neg fun hconditions => h v i ⟨hsupply, hcurrent, hconditions⟩
  · rfl

/-- Settles O32, by whether the conditions of a trim hold. -/
theorem resistanceTrim : Obligations.ResistanceTrim := by
  intro ch s d able
  refine ⟨fun v i hable => ?_, fun hnot => ?_⟩
  · simp only [State.resistanceTrim, State.trimMeasure_of_able (ch := ch) hable]
    rfl
  · simp only [State.resistanceTrim, State.trimMeasure_of_not_able (ch := ch) hnot]

end Sys2Proof.Machine
end

section
/-! PROOF. The oil pressure's samples (O33): the poll list by its slots, the range check by the code's band and its run, and the
filter's pressure after a sample. -/

namespace Sys2Proof.Machine

/-! ### The poll list and its slots (R134) -/

/-- The poll list as one list of ten inputs, read from its first again after its last. -/
theorem pollInput_eq_iff (slot : Nat) (input : SenseInput) :
    pollInput slot = input ↔
      [SenseInput.ia, .ib, .oilp, .ia, .ib, .vsup, .ia, .ib, .tdie, .oilp][slot % 10]? = some input := by
  have hcases : ∀ k < 10, pollInput k = input ↔
      [SenseInput.ia, .ib, .oilp, .ia, .ib, .vsup, .ia, .ib, .tdie, .oilp][k]? = some input := by
    cases input <;> decide
  rw [← hcases (slot % 10) (Nat.mod_lt _ (by decide))]
  simp only [pollInput, Nat.mod_mod]

theorem State.slotDue_eq (s : State) (input : SenseInput) :
    s.slotDue input =
      decide
        ([SenseInput.ia, .ib, .oilp, .ia, .ib, .vsup, .ia, .ib, .tdie, .oilp][(s.timers.slotIndex +
            9 * s.timers.slot.owed) % 10]? = some input) := by
  simp only [State.slotDue, pollInput_eq_iff, Timers.nextSlot, Nat.mod_mod]

/-! ### The range check (R142) -/

theorem inBand_iff (code : Code12) : inBand code = true ↔ 205 ≤ code.toNat ∧ code.toNat ≤ 3890 := by
  simp [inBand]

section RangeCheck

variable {s : State} {code : Code12}

theorem State.rangeCheck_of_inBand (hband : inBand code = true) :
    s.rangeCheck code = s.modSense fun n => { n with rangeRun := 0 } := by
  rw [State.rangeCheck, if_pos hband]

theorem State.rangeCheck_of_out (hband : ¬inBand code = true) (hrun : s.sense.rangeRun < 7) :
    s.rangeCheck code = s.modSense fun n => { n with rangeRun := n.rangeRun + 1 } := by
  rw [State.rangeCheck, if_neg hband, if_neg (by omega)]

theorem State.rangeCheck_of_eighth (hband : ¬inBand code = true) (hrun : 7 ≤ s.sense.rangeRun) :
    s.rangeCheck code = (s.modSense fun n => { n with rangeRun := 0 }).latchStation .oilpSensor := by
  rw [State.rangeCheck, if_neg hband, if_pos (by omega)]

end RangeCheck

/-! ### The sample and the latch (R136, R137, R141, R142) -/

section OilPressure

variable {s : State} (hsupply : s.supplyLow = false) (code : Code12)
include hsupply

/-- The filtered pressure is formed from the one before the slot completed. -/
theorem exec_oilpSample_of_due (hdue : s.slotDue .oilp = true) :
    exec (.oilpSample code) s =
      .next
        ((s.completeSlot.modSense fun n =>
          { n with pressure := some (filtered s.sense.pressure (scalePressure code)) }).rangeCheck code) := by
  have hsense : s.completeSlot.sense = s.sense := by simp
  simp only [exec, execOilpSample, act_of_live hsupply, if_pos hdue, State.modSense, hsense]

theorem exec_oilpSample_of_not_due (hdue : ¬s.slotDue .oilp = true) : exec (.oilpSample code) s = .next s := by
  simp only [exec, execOilpSample, act_of_live hsupply, if_neg hdue]

theorem exec_oilpSensor_of_eighth (hband : ¬inBand code = true) (hrun : 7 ≤ s.sense.rangeRun) :
    exec (.oilpSensor code) s =
      .next ((s.modSense fun n => { n with rangeRun := 0 }).latchStation .oilpSensor) := by
  have heighth : inBand code = false ∧ 8 ≤ s.sense.rangeRun + 1 := ⟨by simpa using hband, by omega⟩
  simp only [exec, execOilpSensor, act_of_live hsupply, if_pos heighth, State.rangeCheck_of_eighth hband hrun]

end OilPressure

/-- Settles O33: the poll list, the completion of a slot, and a sample in its turn by the three cases of the range check. -/
theorem oilPressureSamples : Obligations.OilPressureSamples := by
  intro code s
  refine ⟨s.slotDue_eq, rfl, ?_⟩
  intro hsupply kPa p sampled band due
  have hband : band ↔ inBand code = true := (inBand_iff code).symm
  let u := s.completeSlot.modSense fun n => { n with pressure := some p }
  have hrun : u.sense.rangeRun = s.sense.rangeRun := by simp [u]
  have hsample : due → exec (.oilpSample code) s = .next (u.rangeCheck code) := exec_oilpSample_of_due hsupply code
  refine ⟨fun h hin => ?_, fun h hout hfew => ?_, fun h hout heighth => ?_, exec_oilpSample_of_not_due hsupply code,
    fun hout heighth => exec_oilpSensor_of_eighth hsupply code (hband.not.1 hout) heighth⟩
  · rw [hsample h, State.rangeCheck_of_inBand (hband.1 hin)]
    rfl
  · rw [hsample h, State.rangeCheck_of_out (hband.not.1 hout) (hrun ▸ hfew), ← hrun]
    rfl
  · rw [hsample h, State.rangeCheck_of_eighth (hband.not.1 hout) (hrun ▸ heighth)]
    rfl

end Sys2Proof.Machine
end

section
/-! PROOF. What the agreement of the slots, the transmitter and the silence (O59) says of a send slot and of the link controller
by themselves. -/

namespace Sys2Proof.Machine

/-! ### A slot by itself (R155, R158, R161) -/

/-- A slot of a link whose transmitter is given: at most seven failed attempts, nothing but a content in an occupied slot, and
the mark only of the content that is being sent. -/
structure Slot.Sound (sl : Slot) (k : SlotName) (t : Transmitter) : Prop where
  attempts : sl.attempts ≤ 7
  empty : sl.content = none → sl = Slot.empty
  onLine : sl.onLine = true → ∃ f, t = .sending k f ∧ sl.content = some f

theorem Slot.empty_sound (k : SlotName) (t : Transmitter) : Slot.empty.Sound k t :=
  ⟨Nat.zero_le _, fun _ => rfl, nofun⟩

/-- A failed attempt that is not the eighth leaves the content (R160, R161). -/
theorem Slot.failed_sound {sl : Slot} (hfew : sl.attempts + 1 < 8) (hcontent : sl.content.isSome = true) (k : SlotName)
    (t : Transmitter) : sl.failed.Sound k t := by
  refine ⟨Nat.le_of_lt_succ hfew, fun hnone => ?_, nofun⟩
  rw [show sl.content = none from hnone] at hcontent
  cases hcontent

section SlotOperations

variable {sl : Slot} {k : SlotName} {t : Transmitter} (h : sl.Sound k t)
include h

/-- A slot that is not on the line has nothing to do with the transmitter. -/
theorem Slot.Sound.of_unmarked (hmark : sl.onLine = false) (u : Transmitter) : sl.Sound k u :=
  { h with onLine := fun hon => absurd (hmark.symm.trans hon) (by decide) }

theorem Slot.Sound.unmark (u : Transmitter) : Slot.Sound { sl with onLine := false } k u :=
  ⟨h.attempts, fun hnone => by rw [h.empty hnone]; rfl, nofun⟩

/-- A new content waits with the attempts of the old one (R155). -/
theorem Slot.Sound.queue (f : Frame) (u : Transmitter) : (sl.queue f).Sound k u := by
  refine ⟨?_, nofun, nofun⟩
  simp only [Slot.queue]
  split
  · exact Nat.zero_le _
  · exact h.attempts

theorem Slot.Sound.completed (u : Transmitter) : sl.completed.Sound k u := by
  unfold Slot.completed
  split
  · exact Slot.empty_sound k u
  · next hmark => exact h.of_unmarked (by simpa using hmark) u

end SlotOperations

/-! ### The link by itself (R149, R153) -/

/-- The items of the link controller in agreement. -/
structure Link.Sound (l : Link) : Prop where
  gapCount : l.gapCount ≤ 11
  discardRun : l.discardRun ≤ 3
  goodRun : l.goodRun ≤ 16
  dominantRun : l.dominantRun ≤ 40
  order : l.faultOrder.Perm [SlotName.faultStation, SlotName.faultA, SlotName.faultB]
  slot : ∀ k, (l.slot k).Sound k l.transmitter
  sending : ∀ k f, l.transmitter = .sending k f → (l.slot k).content.isSome = true ∧ l.reading = .frame
  silent : l.silence = true → l.transmitter = .free ∧ ∀ k, l.slot k = Slot.empty

theorem linkSound_iff (s : State) : Safety.LinkSound s ↔ s.link.Sound :=
  ⟨fun ⟨gap, discards, goods, dominant, order, attempts, empty, onLine, sending, silent⟩ =>
      ⟨gap, discards, goods, dominant, order, fun k => ⟨attempts k, empty k, onLine k⟩, sending, silent⟩,
    fun ⟨gap, discards, goods, dominant, order, slot, sending, silent⟩ =>
      ⟨gap, discards, goods, dominant, order, fun k => (slot k).attempts, fun k => (slot k).empty,
        fun k => (slot k).onLine, sending, silent⟩⟩

theorem Link.atReset_sound : Link.atReset.Sound where
  gapCount := Nat.zero_le _
  discardRun := Nat.zero_le _
  goodRun := Nat.zero_le _
  dominantRun := Nat.zero_le _
  order := .refl _
  slot := fun k => by cases k <;> exact Slot.empty_sound _ _
  sending := nofun
  silent := nofun

end Sys2Proof.Machine
end

section
/-! PROOF. A frame's bits on the line by their groups of eight with a spacer (R146), and the dominant bits that can stand at the
end of what is read of it (R154). -/

namespace Sys2Proof.Machine

/-! ### Groups of eight bits (R146) -/

theorem withSpacers_group {group : List Bool} (h : group.length = 8) (rest : List Bool) :
    withSpacers (group ++ rest) = group ++ true :: withSpacers rest := by
  match group, h with
  | [_, _, _, _, _, _, _, _], _ => rfl

theorem withSpacers_short {bits : List Bool} (h : bits.length < 8) : withSpacers bits = bits := by
  match bits, h with
  | [], _ | [_], _ | [_, _], _ | [_, _, _], _ | [_, _, _, _], _ | [_, _, _, _, _], _ | [_, _, _, _, _, _], _
  | [_, _, _, _, _, _, _], _ => rfl

/-- Bits are fewer than eight, or a group of eight before others. -/
theorem groups_induction {P : List Bool → Prop} (short : ∀ bits, bits.length < 8 → P bits)
    (group : ∀ group rest, group.length = 8 → P rest → P (group ++ rest)) (bits : List Bool) : P bits := by
  rcases Nat.lt_or_ge bits.length 8 with hlt | hge
  · exact short bits hlt
  · rw [← List.take_append_drop 8 bits]
    exact group _ _ (by simp [hge]) (groups_induction short group (bits.drop 8))
termination_by bits.length
decreasing_by simp only [List.length_drop]; omega

/-! ### Dominant bits at the end (R154) -/

/-- The dominant run at the end of the bits is at most their number. -/
theorem dominantTail_le_length (bits : List Bool) : dominantTail bits ≤ bits.length := by
  simpa [dominantTail] using (List.takeWhile_sublist (fun b => !b) (l := bits.reverse)).length_le

/-- A recessive bit ends the dominant run before it. -/
theorem dominantTail_append_true (bits rest : List Bool) : dominantTail (bits ++ true :: rest) = dominantTail rest := by
  simp only [dominantTail, List.reverse_append, List.reverse_cons, List.append_assoc, List.takeWhile_append]
  split
  · next hall => simp [hall]
  · rfl

theorem dominantTail_concat_le (bits : List Bool) (b : Bool) : dominantTail (bits ++ [b]) ≤ dominantTail bits + 1 := by
  cases b <;> simp [dominantTail]

theorem dominantTail_take_withSpacers (bits : List Bool) :
    ∀ n, dominantTail ((withSpacers bits).take n) ≤ 8 := by
  induction bits using groups_induction with
  | short bits hbits =>
    intro n
    have hlength := (dominantTail_le_length (bits.take n)).trans (List.length_take_le' n bits)
    rw [withSpacers_short hbits]
    omega
  | group group rest hgroup ih =>
    intro n
    rw [withSpacers_group hgroup, List.take_append]
    rcases Nat.lt_or_ge 8 n with hpast | hwithin
    · obtain ⟨m, hm⟩ : ∃ m, n - group.length = m + 1 := ⟨n - 9, by omega⟩
      rw [hm, List.take_succ_cons, dominantTail_append_true]
      exact ih m
    · rw [hgroup, Nat.sub_eq_zero_of_le hwithin, List.take_zero, List.append_nil]
      have hlength := (dominantTail_le_length (group.take n)).trans (List.length_take_le' n group)
      omega

/-- No more than eight bits of a frame on the line are dominant in a row, since the ninth is a spacer (R146). -/
theorem dominantTail_take_lineBits (f : Frame) (n : Nat) : dominantTail (f.lineBits.take n) ≤ 8 := by
  rw [Frame.lineBits, List.take_append, endField, List.take_replicate]
  cases min (n - (withSpacers f.countedBits).length) 8 with
  | zero => simpa using dominantTail_take_withSpacers f.countedBits n
  | succ m => rw [List.replicate_succ', ← List.append_assoc, dominantTail_append_true]; exact Nat.zero_le _

theorem dominantTail_readBack (f : Frame) (bit : Nat) : dominantTail (readBack f bit) ≤ 40 :=
  (dominantTail_concat_le _ _).trans (by have := dominantTail_take_lineBits f bit; omega)

end Sys2Proof.Machine
end

section
/-! PROOF. A frame on the line and the receiver (O46): the fields as bits and back (R146), what the receiver makes of groups of
eight bits with a spacer, of the header and of the end field (R147), and that it reads every well-formed frame back (R148). -/

namespace Sys2Proof.Machine

/-! ### Numbers as bits (R146) -/

theorem bitsOf_eq_map (n x : Nat) : bitsOf n x = (List.range n).map fun i => x.testBit (n - 1 - i) := by
  induction n with
  | zero => rfl
  | succ n ih =>
    rw [bitsOf, ih, List.range_succ_eq_map, List.map_cons, List.map_map]
    refine congrArg₂ List.cons rfl (List.map_congr_left fun i _ => congrArg x.testBit ?_)
    show n - 1 - i = n + 1 - 1 - (i + 1)
    omega

@[simp] theorem length_bitsOf (n x : Nat) : (bitsOf n x).length = n := by simp [bitsOf_eq_map]

theorem foldl_bits (bits : List Bool) (x : Nat) :
    bits.foldl (fun x b => 2 * x + b.toNat) x = 2 ^ bits.length * x + ofBits bits := by
  induction bits generalizing x with
  | nil => simp [ofBits]
  | cons b bits ih =>
    have hcons : ofBits (b :: bits) = 2 ^ bits.length * (2 * 0 + b.toNat) + ofBits bits := ih _
    rw [List.foldl_cons, ih, hcons, List.length_cons, pow_succ]
    ring

/-- The bits of a number spell its remainder by their count. -/
theorem ofBits_bitsOf (n x : Nat) : ofBits (bitsOf n x) = x % 2 ^ n := by
  induction n with
  | zero => simp [bitsOf, ofBits, Nat.mod_one]
  | succ n ih =>
    rw [bitsOf, ofBits, List.foldl_cons, foldl_bits, ih, length_bitsOf, Nat.toNat_testBit, pow_succ, Nat.mod_mul]
    ring

theorem ofNat_ofBits_bitsOf {n : Nat} (w : BitVec n) : BitVec.ofNat n (ofBits (bitsOf n w.toNat)) = w := by
  rw [ofBits_bitsOf, Nat.mod_eq_of_lt w.isLt, BitVec.ofNat_toNat, BitVec.setWidth_eq]

/-! ### The payload (R146) -/

theorem payloadBits_eq_flatten (ws : List Word16) : payloadBits ws = (ws.map fun w => bitsOf 16 w.toNat).flatten := by
  induction ws with
  | nil => rfl
  | cons w ws ih => rw [payloadBits, ih]; rfl

@[simp] theorem length_payloadBits (ws : List Word16) : (payloadBits ws).length = 16 * ws.length := by
  induction ws with
  | nil => rfl
  | cons w ws ih => simp only [payloadBits, List.length_append, length_bitsOf, ih, List.length_cons]; ring

theorem payloadOf_payloadBits (ws : List Word16) : payloadOf ws.length (payloadBits ws) = ws := by
  induction ws with
  | nil => rfl
  | cons w ws ih =>
    rw [payloadBits, List.length_cons, payloadOf, List.take_left' (length_bitsOf _ _), List.drop_left' (length_bitsOf _ _),
      ofNat_ofBits_bitsOf, ih]

/-! ### The check code (R148) -/

theorem checkOf_concat (bits : List Bool) (b : Bool) :
    checkOf (bits ++ [b]) =
      if xor b ((checkOf bits).getLsbD 15) = true then (checkOf bits <<< 1) ^^^ 0x1021 else checkOf bits <<< 1 := by
  simp only [checkOf, List.foldl_append, List.foldl_cons, List.foldl_nil, checkStep, BitVec.msb_eq_getLsbD_last]
  rfl

/-! ### Groups of eight bits (R146, R147) -/

theorem length_withSpacers {bits : List Bool} {j : Nat} (h : bits.length = 8 * j) : (withSpacers bits).length = 9 * j := by
  induction j generalizing bits with
  | zero => simp [List.eq_nil_of_length_eq_zero h, withSpacers]
  | succ j ih =>
    have hgroup : (bits.take 8).length = 8 := by simp; omega
    have hrest := ih (bits := bits.drop 8) (by simp; omega)
    rw [← List.take_append_drop 8 bits, withSpacers_group hgroup]
    simp only [List.length_append, List.length_cons, hgroup, hrest]
    ring

section Groups

variable {group : List Bool} (hgroup : group.length = 8) {base n : Nat} {rest : List Bool}
include hgroup

theorem readGroups_of_ok {counted left : List Bool} (h : readGroups (base + 9) n rest = .ok counted left) :
    readGroups base (n + 1) (group ++ true :: rest) = .ok (group ++ counted) left := by
  match group, hgroup with
  | [_, _, _, _, _, _, _, _], _ => simp [readGroups, h]

theorem readGroups_of_badSpacer {k : Nat} (h : readGroups (base + 9) n rest = .badSpacer k) :
    readGroups base (n + 1) (group ++ true :: rest) = .badSpacer k := by
  match group, hgroup with
  | [_, _, _, _, _, _, _, _], _ => simp [readGroups, h]

/-- A spacer read dominant ends the frame at its bit (R147). -/
theorem readGroups_of_dominant : readGroups base (n + 1) (group ++ false :: rest) = .badSpacer (base + 9) := by
  match group, hgroup with
  | [_, _, _, _, _, _, _, _], _ => simp [readGroups]

theorem readGroups_single : readGroups base 1 (group ++ true :: rest) = .ok group rest := by
  rw [readGroups_of_ok hgroup (counted := []) (left := rest) rfl, List.append_nil]

end Groups

theorem readGroups_withSpacers {counted : List Bool} {n : Nat} (h : counted.length = 8 * n) (base : Nat)
    (rest : List Bool) : readGroups base n (withSpacers counted ++ rest) = .ok counted rest := by
  induction n generalizing base counted with
  | zero => simp [List.eq_nil_of_length_eq_zero h, withSpacers, readGroups]
  | succ n ih =>
    have hgroup : (counted.take 8).length = 8 := by simp; omega
    have hrest := ih (counted := counted.drop 8) (by simp; omega) (base + 9)
    rw [← List.take_append_drop 8 counted, withSpacers_group hgroup, List.append_assoc, List.cons_append,
      readGroups_of_ok hgroup hrest]

/-- Of the groups that are read, the first whose spacer is dominant ends the frame (R147). -/
theorem readGroups_withSpacers_dominant {counted group : List Bool} {m n : Nat} (h : counted.length = 8 * m) (hmn : m < n)
    (hgroup : group.length = 8) (base : Nat) (rest : List Bool) :
    readGroups base n (withSpacers counted ++ (group ++ false :: rest)) = .badSpacer (base + 9 * m + 9) := by
  obtain ⟨n, rfl⟩ := Nat.exists_eq_add_of_lt hmn
  induction m generalizing base counted with
  | zero =>
    rw [List.eq_nil_of_length_eq_zero h, withSpacers_short (by decide), List.nil_append, readGroups_of_dominant hgroup]
  | succ m ih =>
    have hfirst : (counted.take 8).length = 8 := by simp; omega
    have hrest := ih (counted := counted.drop 8) (by simp; omega) (base + 9) (by omega)
    rw [← List.take_append_drop 8 counted, withSpacers_group hfirst, List.append_assoc, List.cons_append,
      show m + 1 + n + 1 = m + n + 1 + 1 by omega, readGroups_of_badSpacer hfirst hrest]
    congr 1
    omega

/-! ### The end field (R147) -/

theorem readEnd_of_dominant {e n : Nat} (h : e < n) (base : Nat) (rest : List Bool) :
    readEnd base n (List.replicate e true ++ false :: rest) = .inl (.aborted (base + e + 1)) := by
  obtain ⟨n, rfl⟩ := Nat.exists_eq_add_of_lt h
  induction e generalizing base with
  | zero => simp [readEnd]
  | succ e ih =>
    rw [show e + 1 + n + 1 = e + n + 1 + 1 by omega, List.replicate_succ, List.cons_append, readEnd, if_pos rfl,
      ih (base + 1) (by omega), show base + 1 + e + 1 = base + (e + 1) + 1 by omega]

theorem readEnd_of_recessive (base n : Nat) : readEnd base n (List.replicate n true) = .inr () := by
  induction n generalizing base with
  | zero => rfl
  | succ n ih => rw [List.replicate_succ, readEnd, if_pos rfl, ih]

/-! ### The receiver's verdict (R147, R148) -/

/-- A group is enough to judge the length field. -/
theorem not_short_of_group {route : List Bool} (hroute : route.length = 8) (rest : List Bool) :
    ¬(route ++ rest).length < 8 := by
  simp [hroute]

/-- A first spacer read dominant. -/
theorem judge_of_badTag {group : List Bool} (hgroup : group.length = 8) (rest : List Bool) :
    judge (group ++ false :: rest) = .aborted 9 := by
  simp only [judge, readGroups_of_dominant hgroup, Nat.zero_add]

section Header

variable {first route : List Bool} (hfirst : first.length = 8) (hroute : route.length = 8) {rest : List Bool}
include hfirst hroute

theorem judge_of_illegalLength (hlength : 8 < ofBits (route.drop 4)) :
    judge (first ++ true :: (route ++ rest)) = .aborted 17 := by
  simp only [judge, readGroups_single hfirst, List.take_left' hroute, not_short_of_group hroute, hlength, if_true, if_false]

variable (hlength : ofBits (route.drop 4) ≤ 8)
include hlength

/-- A second spacer read dominant. -/
theorem judge_of_badRoute : judge (first ++ true :: (route ++ false :: rest)) = .aborted 18 := by
  simp only [judge, readGroups_single hfirst, List.take_left' hroute, not_short_of_group hroute, Nat.not_lt.2 hlength, if_false,
    readGroups_of_dominant hroute]

theorem judge_of_badSpacer {n : Nat} (h : readGroups 18 (2 * (ofBits (route.drop 4) + 1)) rest = .badSpacer n) :
    judge (first ++ true :: (route ++ true :: rest)) = .aborted n := by
  simp only [judge, readGroups_single hfirst, List.take_left' hroute, not_short_of_group hroute, Nat.not_lt.2 hlength, if_false,
    readGroups_single hroute, h]

variable {body afterCheck : List Bool}
  (hbody : readGroups 18 (2 * (ofBits (route.drop 4) + 1)) rest = .ok body afterCheck)
include hbody

theorem judge_of_badEnd {v : Verdict} (h : readEnd (18 + 18 * (ofBits (route.drop 4) + 1)) 8 afterCheck = .inl v) :
    judge (first ++ true :: (route ++ true :: rest)) = v := by
  simp only [judge, readGroups_single hfirst, List.take_left' hroute, not_short_of_group hroute, Nat.not_lt.2 hlength, if_false,
    readGroups_single hroute, hbody, h]

theorem judge_of_end (h : readEnd (18 + 18 * (ofBits (route.drop 4) + 1)) 8 afterCheck = .inr ()) :
    let payload := body.take (16 * ofBits (route.drop 4));
    judge (first ++ true :: (route ++ true :: rest)) =
      if bitsOf 16 (checkOf ((first ++ route).drop 1 ++ payload)).toNat = body.drop (16 * ofBits (route.drop 4)) then
        .good (frameOf (first ++ route) payload)
      else .badCheck := by
  simp only [judge, readGroups_single hfirst, List.take_left' hroute, not_short_of_group hroute, Nat.not_lt.2 hlength, if_false,
    readGroups_single hroute, hbody, h]

end Header

/-! ### The counted bits by the header's two groups and what follows (R146) -/

/-- The length field of the counted bits read. -/
def lengthField (counted : List Bool) : Nat := ofBits ((counted.drop 12).take 4)

theorem lengthField_two_groups {first route : List Bool} (hfirst : first.length = 8) (hroute : route.length = 8) :
    lengthField (first ++ route) = ofBits (route.drop 4) := by
  match first, route, hfirst, hroute with
  | [_, _, _, _, _, _, _, _], [_, _, _, _, _, _, _, _], _, _ => rfl

theorem withSpacers_one_group {group : List Bool} (h : group.length = 8) : withSpacers group = group ++ [true] := by
  match group, h with
  | [_, _, _, _, _, _, _, _], _ => rfl

theorem exists_header {counted : List Bool} (h : 16 ≤ counted.length) :
    ∃ first route body : List Bool, first.length = 8 ∧ route.length = 8 ∧ counted = first ++ (route ++ body) :=
  ⟨counted.take 8, (counted.drop 8).take 8, (counted.drop 8).drop 8, by simp; omega, by simp; omega, by
    rw [List.take_append_drop, List.take_append_drop]⟩

section Split

variable {first route : List Bool} (hfirst : first.length = 8) (hroute : route.length = 8) (tail : List Bool)
include hfirst hroute

theorem lengthField_header : lengthField (first ++ (route ++ tail)) = ofBits (route.drop 4) := by
  match first, route, hfirst, hroute with
  | [_, _, _, _, _, _, _, _], [_, _, _, _, _, _, _, _], _, _ => rfl

theorem withSpacers_header :
    withSpacers (first ++ (route ++ tail)) = first ++ true :: (route ++ true :: withSpacers tail) := by
  rw [withSpacers_group hfirst, withSpacers_group hroute]

theorem take_header : (first ++ (route ++ tail)).take 16 = first ++ route := by
  rw [← List.append_assoc, List.take_left' (by simp [hfirst, hroute])]

theorem drop_header (n : Nat) : (first ++ (route ++ tail)).drop (16 + n) = tail.drop n := by
  rw [← List.append_assoc, ← List.drop_drop, List.drop_left' (by simp [hfirst, hroute])]

/-- The bits that the check code covers: all but the start bit, and of the rest the payload (R148). -/
theorem covered_header (n : Nat) :
    ((first ++ (route ++ tail)).drop 1).take (15 + n) = (first ++ route).drop 1 ++ tail.take n := by
  match first, route, hfirst, hroute with
  | [_, _, _, _, _, _, _, _], [_, _, _, _, _, _, _, _], _, _ => rw [Nat.add_comm]; rfl

end Split

section Counted

variable {counted : List Bool} {j : Nat} (hcounted : counted.length = 8 * j)
include hcounted

/-- A spacer read dominant, at the first group, at the second, or after the header (R147). -/
theorem judge_of_dominantSpacer {group : List Bool} (hgroup : group.length = 8)
    (h : j = 0 ∨ lengthField (counted ++ group) ≤ 8 ∧ j < 2 * lengthField (counted ++ group) + 4) (rest : List Bool) :
    judge (withSpacers counted ++ group ++ false :: rest) = .aborted (9 * j + 9) := by
  match j, hcounted with
  | 0, hcounted =>
    rw [List.eq_nil_of_length_eq_zero hcounted, withSpacers_short (by decide), List.nil_append, judge_of_badTag hgroup]
  | 1, hcounted =>
    obtain ⟨hlength, _⟩ := h.resolve_left (by decide)
    rw [lengthField_two_groups hcounted hgroup] at hlength
    rw [withSpacers_one_group hcounted, List.append_assoc, List.append_assoc]
    exact judge_of_badRoute hcounted hgroup hlength
  | m + 2, hcounted =>
    obtain ⟨first, route, body, hfirst, hroute, rfl⟩ := exists_header (counted := counted) (by omega)
    simp only [List.length_append, hfirst, hroute] at hcounted
    have hfield := lengthField_header hfirst hroute (body ++ group)
    rw [← List.append_assoc, ← List.append_assoc, List.append_assoc first] at hfield
    obtain ⟨hlength, hwithin⟩ := h.resolve_left (by omega)
    rw [hfield] at hlength hwithin
    have hread := readGroups_withSpacers_dominant (counted := body) (m := m) (n := 2 * (ofBits (route.drop 4) + 1))
      (by omega) (by omega) hgroup 18 rest
    have hverdict := judge_of_badSpacer hfirst hroute hlength hread
    rw [withSpacers_header hfirst hroute]
    simpa [show 18 + 9 * m + 9 = 9 * (m + 2) + 9 by omega] using hverdict

/-- A length field of 9 to 15 (R147). -/
theorem judge_of_longField (hj : j = 1) {group : List Bool} (hgroup : group.length = 8)
    (hlength : 8 < lengthField (counted ++ group)) (rest : List Bool) :
    judge (withSpacers counted ++ group ++ rest) = .aborted 17 := by
  subst hj
  rw [lengthField_two_groups hcounted hgroup] at hlength
  rw [withSpacers_one_group hcounted, List.append_assoc, List.append_assoc]
  exact judge_of_illegalLength hcounted hgroup hlength

variable (hj : j = 2 * lengthField counted + 4) (hlength : lengthField counted ≤ 8)
include hj hlength

/-- An end bit read dominant (R147). -/
theorem judge_of_dominantEnd {e : Nat} (he : e < 8) (rest : List Bool) :
    judge (withSpacers counted ++ List.replicate e true ++ false :: rest) =
      .aborted (18 * lengthField counted + 36 + e + 1) := by
  obtain ⟨first, route, body, hfirst, hroute, rfl⟩ := exists_header (counted := counted) (by omega)
  rw [lengthField_header hfirst hroute] at hj hlength ⊢
  simp only [List.length_append, hfirst, hroute] at hcounted
  have hread := readGroups_withSpacers (counted := body) (n := 2 * (ofBits (route.drop 4) + 1)) (by omega) 18
    (List.replicate e true ++ false :: rest)
  have hverdict := judge_of_badEnd hfirst hroute hlength hread (readEnd_of_dominant he _ rest)
  rw [withSpacers_header hfirst hroute]
  simpa [show 18 + 18 * (ofBits (route.drop 4) + 1) = 18 * ofBits (route.drop 4) + 36 by omega] using hverdict

/-- A frame read to its end, by its check code (R148). -/
theorem judge_of_recessiveEnd :
    judge (withSpacers counted ++ List.replicate 8 true) =
      if bitsOf 16 (checkOf ((counted.drop 1).take (15 + 16 * lengthField counted))).toNat =
          counted.drop (16 + 16 * lengthField counted) then
        .good (frameOf (counted.take 16) ((counted.drop 16).take (16 * lengthField counted)))
      else .badCheck := by
  obtain ⟨first, route, body, hfirst, hroute, rfl⟩ := exists_header (counted := counted) (by omega)
  rw [lengthField_header hfirst hroute] at hj hlength ⊢
  simp only [List.length_append, hfirst, hroute] at hcounted
  have hread := readGroups_withSpacers (counted := body) (n := 2 * (ofBits (route.drop 4) + 1)) (by omega) 18
    (List.replicate 8 true)
  have hverdict := judge_of_end hfirst hroute hlength hread (readEnd_of_recessive _ 8)
  have hdrop : (first ++ (route ++ body)).drop 16 = body := drop_header hfirst hroute body 0
  rw [withSpacers_header hfirst hroute, covered_header hfirst hroute, drop_header hfirst hroute, take_header hfirst hroute,
    hdrop]
  simpa using hverdict

end Counted

/-! ### A frame put on the line and read back (R146 to R148) -/

section Sent

variable (f : Frame)

/-- The header's two groups: start bit and tag, destination and length. -/
def headBits (f : Frame) : List Bool := false :: f.tagBits ++ f.routeBits

theorem length_headBits : (headBits f).length = 16 := rfl

theorem countedBits_eq :
    f.countedBits = (headBits f) ++ (payloadBits f.payload ++ bitsOf 16 (checkOf f.checkedBits).toNat) := by
  simp [Frame.countedBits, Frame.checkedBits, headBits]

theorem checkedBits_eq : f.checkedBits = (headBits f).drop 1 ++ payloadBits f.payload := rfl

theorem length_countedBits : f.countedBits.length = 8 * (2 * f.payload.length + 4) := by
  rw [countedBits_eq]
  simp only [List.length_append, length_headBits, length_payloadBits, length_bitsOf]
  ring

theorem length_lineBits : f.lineBits.length = 44 + 18 * f.payload.length := by
  rw [Frame.lineBits, List.length_append, length_withSpacers (length_countedBits f)]
  simp only [endField, List.length_replicate]
  ring

theorem lengthField_countedBits : lengthField f.countedBits = f.payload.length % 16 := by
  rw [countedBits_eq]
  exact ofBits_bitsOf 4 f.payload.length

variable {f} (hshort : f.payload.length ≤ 8) (hdest : f.header.addressed = true ∨ f.header.dest = 0)
include hshort hdest

/-- The header and the payload spell the frame that they are of. -/
theorem frameOf_headBits : frameOf (headBits f) (payloadBits f.payload) = f := by
  obtain ⟨cls, ⟨source, addressed, dest⟩, payload⟩ := f
  have hcls : BitVec.ofNat 4 (ofBits (bitsOf 4 cls.toNat)) = cls := ofNat_ofBits_bitsOf cls
  have hsource : BitVec.ofNat 3 (ofBits (bitsOf 3 source.toNat)) = source := ofNat_ofBits_bitsOf source
  have hpayload : payloadOf (ofBits (bitsOf 4 payload.length)) (payloadBits payload) = payload := by
    have hlength : payload.length % 2 ^ 4 = payload.length := Nat.mod_eq_of_lt (Nat.lt_of_le_of_lt hshort (by decide))
    rw [ofBits_bitsOf, hlength, payloadOf_payloadBits]
  have hdestination : (if addressed then BitVec.ofNat 3 (ofBits (bitsOf 3 (if addressed then dest.toNat else 0))) else 0) =
      dest := by
    cases addressed with
    | true => exact ofNat_ofBits_bitsOf dest
    | false => exact (hdest.resolve_left Bool.false_ne_true).symm
  calc frameOf (headBits ⟨cls, ⟨source, addressed, dest⟩, payload⟩) (payloadBits payload)
      = ⟨BitVec.ofNat 4 (ofBits (bitsOf 4 cls.toNat)),
          ⟨BitVec.ofNat 3 (ofBits (bitsOf 3 source.toNat)), addressed,
            if addressed then BitVec.ofNat 3 (ofBits (bitsOf 3 (if addressed then dest.toNat else 0))) else 0⟩,
          payloadOf (ofBits (bitsOf 4 payload.length)) (payloadBits payload)⟩ := rfl
    _ = ⟨cls, ⟨source, addressed, dest⟩, payload⟩ := by rw [hcls, hsource, hpayload, hdestination]

/-- The receiver reads the frame back that the sender puts on the line. -/
theorem judge_lineBits : judge f.lineBits = .good f := by
  have hfield : lengthField f.countedBits = f.payload.length := by
    rw [lengthField_countedBits]
    omega
  have hverdict := judge_of_recessiveEnd (length_countedBits f) (by rw [hfield]) (by omega)
  have hhead : (headBits f).length = 16 := length_headBits f
  have htake : f.countedBits.take 16 = headBits f := by
    rw [countedBits_eq, List.take_left' hhead]
  have hdrop : ∀ n, f.countedBits.drop (16 + n) =
      (payloadBits f.payload ++ bitsOf 16 (checkOf f.checkedBits).toNat).drop n := fun n => by
    rw [countedBits_eq, ← List.drop_drop, List.drop_left' hhead]
  have hpayload := hdrop 0
  have hcovered : (f.countedBits.drop 1).take (15 + 16 * f.payload.length) = f.checkedBits := by
    refine List.take_left' (l₂ := bitsOf 16 (checkOf f.checkedBits).toNat) ?_
    rw [checkedBits_eq, List.length_append, List.length_drop, hhead, length_payloadBits]
  rw [hfield, hcovered, htake, hdrop, List.drop_left' (length_payloadBits _), if_pos rfl, hpayload, List.drop_zero,
    List.take_left' (length_payloadBits _), frameOf_headBits hshort hdest] at hverdict
  exact hverdict

end Sent

/-- Settles O46: the frame read back, its bits in order, and the receiver's verdict at each kind of bit. -/
theorem frameRoundTrip : Obligations.FrameRoundTrip := by
  refine ⟨fun f hf => ?_, fun f => ?_, fun group rest => ⟨fun h => withSpacers_group h rest, withSpacers_short⟩,
    ⟨rfl, checkOf_concat⟩, ?_⟩
  · obtain ⟨hshort, hdest⟩ : f.payload.length ≤ 8 ∧ (f.header.addressed = true ∨ f.header.dest = 0) := by
      simpa [Frame.wellFormed] using hf
    exact ⟨judge_lineBits hshort hdest, length_lineBits f⟩
  · intro bits covered
    have hbits : bits = bitsOf := funext₂ fun n x => (bitsOf_eq_map n x).symm
    have hcovered : covered = f.checkedBits := by
      simp [covered, hbits, Frame.checkedBits, Frame.tagBits, Frame.routeBits, payloadBits_eq_flatten]
    rw [hcovered, hbits]
    rfl
  · intro counted group rest j hcounted lengthField words complete
    refine ⟨fun hgroup hread => judge_of_dominantSpacer hcounted hgroup hread rest,
      fun hj hgroup hlong => judge_of_longField hcounted hj hgroup hlong rest,
      fun e hcomplete he => judge_of_dominantEnd hcounted hcomplete.1 hcomplete.2 he rest,
      fun hcomplete => judge_of_recessiveEnd hcounted hcomplete.1 hcomplete.2⟩

end Sys2Proof.Machine
end

section
/-! PROOF. Frames that are read and not delivered: those that no block takes and the address clash (O39), and the discards
with the two thresholds of the runs (O40). -/

namespace Sys2Proof.Machine

/-- A meaning whose effect changes nothing changes nothing while VDD is low either (R174). -/
theorem act_of_fixed {s : State} {f : State → State} (h : f s = s) : act s f = .next s := by
  simp [act, h]

/-! ### Frames that no block takes (R150, R152, R153) -/

/-- A good frame of another station that is not accepted, or that no block uses, is read and counts as good (R150). -/
theorem State.receive_unused {s : State} {f : Frame} (hhears : s.link.hears = true)
    (hsource : f.header.source ≠ s.straps.address)
    (hunused : accepted s.straps.address f = false ∨ frameUse f = .unused) (straps : Straps) :
    s.receive f straps = s.frameRead := by
  rw [State.receive_of_other hhears hsource]
  split
  · next haccepted =>
    exact State.deliver_unused (hunused.resolve_left (by simp [haccepted])) _ _
  · rfl

/-- Where no frame of another station can be read, no frame command acts (R145). -/
theorem State.discard_of_not_hearing {s : State} (h : s.link.hears = false) (bits : List Bool) : s.discard bits = s := by
  simp [State.discard, h]

/-- Settles O39: the frames by the way that `State.receive` takes them. -/
theorem framesWithoutDelivery : Obligations.FramesWithoutDelivery := by
  intro f h w0 w1 w2 w3 w4 w5 w6 pins bits s good read unused
  have hhears : Safety.Hears s → s.link.hears = true := fun ⟨_, hfree, hidle⟩ => (Link.hears_iff _).2 ⟨hfree, hidle⟩
  refine ⟨fun hears hsource hunused => ?_, fun hears hsource => ?_, fun hears hsource => ?_, fun hdeaf c hc => ?_⟩
  · have hpassed : accepted s.straps.address f = false ∨ frameUse f = .unused := by
      rw [use_eq_unused_iff]
      rcases hunused with ⟨haddressed, hdest⟩ | hfault | hclass | hlength
      · exact .inl (by simp [accepted, haddressed, hdest])
      · exact .inr (by simp [hfault])
      · refine .inr fun hmem => ?_
        simp at hmem
        omega
      · exact .inr hlength
    show execFramePassedOver f s = _
    simp only [execFramePassedOver, act_of_live hears.1]
    rw [if_pos ⟨hsource, hpassed⟩, State.receive_unused (hhears hears) hsource hpassed]
    rfl
  · show execFaultFrameReceived h w0 w1 w2 s = _
    simp only [execFaultFrameReceived, act_of_live hears.1]
    rw [State.receive_unused (hhears hears) hsource (.inr rfl)]
    rfl
  · show execAddressClash f s = _
    simp only [execAddressClash, act_of_live hears.1, hsource, if_true]
    rw [State.receive_of_own (hhears hears) hsource]
    rfl
  · cases hsupply : s.supplyLow with
    | true =>
      refine exec_of_low hsupply ?_ ?_
      · rintro edge pins rfl
        simp at hc
      · rintro rfl
        simp at hc
    | false =>
      have hnot : s.link.hears = false := by
        rw [← Bool.not_eq_true, Link.hears_iff]
        exact fun hfree => hdeaf ⟨hsupply, hfree⟩
      have hreceive := State.receive_of_not_hearing hnot
      have hdiscard := State.discard_of_not_hearing hnot
      simp only [List.mem_cons, List.not_mem_nil, or_false] at hc
      rcases hc with rfl | rfl | rfl | rfl | rfl | rfl | rfl | rfl | rfl | rfl | rfl
      iterate 8 exact act_of_fixed (hreceive _ _)
      iterate 2 exact act_of_fixed (by simp only [hreceive, ite_self])
      exact act_of_fixed (hdiscard bits)

/-! ### Discards (R147, R148, R152) -/

theorem Link.countDiscard_eq (l : Link) :
    l.countDiscard =
      { l with
        goodRun := 0
        discardRun := min 3 (l.discardRun + 1)
        linkErrors := l.linkErrors || decide (2 ≤ l.discardRun) } := by
  have hthird : bump 3 l.discardRun = 3 ↔ 2 ≤ l.discardRun := by unfold bump; omega
  simp only [Link.countDiscard, hthird]
  rfl

/-- The discard of a frame of another station counts, that of the remains of the part's own does not (R151). -/
theorem Link.discard_of_aborted {bits : List Bool} {n : Nat} (h : judge bits = .aborted n) (l : Link) :
    let ended : Link := { l with reading := .no, gapCount := 0, dominantRun := min 40 (dominantTail (bits.take n)) };
    l.discard bits = if l.reading = .ownRemains then ended else ended.countDiscard := by
  simp [Link.discard, h]

theorem Link.discard_of_badCheck {bits : List Bool} (h : judge bits = .badCheck) (l : Link) :
    l.discard bits = if l.reading = .ownRemains then l.endFrame else l.endFrame.countDiscard := by
  simp [Link.discard, h]

section Discards

variable {s : State} {bits : List Bool}

theorem exec_frameDiscarded (hears : Safety.Hears s)
    (hfrom : s.link.reading = .ownRemains ∨ bits.head? = some false) (hdiscards : (judge bits).discards = true) :
    exec (.frameDiscarded bits) s = .next (s.atBitRead fun l => l.discard bits) := by
  obtain ⟨hsupply, hfree⟩ := hears
  have hhears : s.link.hears = true := (Link.hears_iff _).2 hfree
  have hreads : s.link.readsFrom bits = true := by simpa [Link.readsFrom] using hfrom.symm
  show execFrameDiscarded bits s = _
  simp [execFrameDiscarded, act_of_live hsupply, State.discard, hhears, hreads, hdiscards]

/-- Bits that end no frame in error, or that no frame of another station begins with, discard nothing (R145). -/
theorem exec_frameDiscarded_of_none (h : (judge bits).discards = false ∨ s.link.readsFrom bits = false) :
    exec (.frameDiscarded bits) s = .next s :=
  act_of_fixed (if_neg (by rcases h with h | h <;> simp [h]))

end Discards

/-- Settles O40: each discard by its verdict and by whose frame ends, and the two thresholds of the runs. -/
theorem discardedFrames : Obligations.DiscardedFrames := by
  intro bits s counted read
  have hexec : Safety.Hears s → s.link.reading = .ownRemains ∨ bits.head? = some false → (judge bits).discards = true →
      exec (.frameDiscarded bits) s = .next (read (s.link.discard bits)) := exec_frameDiscarded
  refine ⟨fun n hjudge hears => ?_, fun hjudge hears => ?_, fun hnone => ?_, fun hsupply hrun => ?_,
    fun hsupply herrors hrun => ?_⟩
  · refine ⟨fun hother hstart => ?_, fun hown => ?_⟩
    · rw [hexec hears (.inr hstart) (by rw [hjudge]; rfl), Link.discard_of_aborted hjudge, if_neg hother,
        Link.countDiscard_eq]
    · rw [hexec hears (.inl hown) (by rw [hjudge]; rfl), Link.discard_of_aborted hjudge, if_pos hown]
  · refine ⟨fun hother hstart => ?_, fun hown => ?_⟩
    · rw [hexec hears (.inr hstart) (by rw [hjudge]; rfl), Link.discard_of_badCheck hjudge, if_neg hother,
        Link.countDiscard_eq]
      rfl
    · rw [hexec hears (.inl hown) (by rw [hjudge]; rfl), Link.discard_of_badCheck hjudge, if_pos hown]
      rfl
  · refine exec_frameDiscarded_of_none ?_
    rcases hnone with hincomplete | ⟨f, hgood⟩ | ⟨hother, hstart⟩
    · exact .inl (by rw [hincomplete]; rfl)
    · exact .inl (by rw [hgood]; rfl)
    · exact .inr (by simp [Link.readsFrom, hother, hstart])
  · have hthird : bump 3 s.link.discardRun = 3 := bump_of_le (by omega)
    show execLinkErrors s = _
    simp [execLinkErrors, act_of_live hsupply, hthird, State.modLink, Link.countDiscard]
  · have hsixteenth : bump 16 s.link.goodRun = 16 := bump_of_le (by omega)
    show execLinkErrorsCleared s = _
    simp [execLinkErrorsCleared, act_of_live hsupply, herrors, hsixteenth, State.modLink, Link.countGood]

end Sys2Proof.Machine
end

section
/-! PROOF. The send arbiter's start (O41), and the ways a transmission ends before its last bit (O42). -/

namespace Sys2Proof.Machine

/-! ### The arbiter's start (R158) -/

/-- Time that passes leaves the slots, their order and the silence. -/
theorem State.elapse_slots (s : State) (n : Nat) :
    (∀ k, (s.elapse n).link.slot k = s.link.slot k) ∧ (s.elapse n).link.faultOrder = s.link.faultOrder ∧
      (s.elapse n).link.silence = s.link.silence := by
  rw [State.elapse_link_eq]
  split
  · exact ⟨fun k => by cases k <;> rfl, rfl, rfl⟩
  · exact ⟨fun _ => rfl, rfl, rfl⟩

theorem Slot.waiting_eq_some_iff (sl : Slot) (f : Frame) :
    sl.waiting = some f ↔ sl.content = some f ∧ sl.onLine = false := by
  unfold Slot.waiting
  split
  · next hon => simp [hon]
  · next hoff => simp [hoff]

/-- The slot chosen is the first one of the order that waits (R158). -/
theorem Link.choose_of_first {l : Link} {k : SlotName} {f : Frame} {before after : List SlotName}
    (horder : l.faultOrder ++ [SlotName.status] = before ++ k :: after) (hwaits : (l.slot k).waiting = some f)
    (hbefore : ∀ j ∈ before, (l.slot j).waiting = none) : l.choose = some (k, f) := by
  have hnone : before.findSome? (fun j => (l.slot j).waiting.map fun g => (j, g)) = none := by
    rw [List.findSome?_eq_none_iff]
    intro j hj
    simp [hbefore j hj]
  simp [Link.choose, horder, List.findSome?_append, hnone, hwaits]

theorem Link.choose_eq_none {l : Link} (h : ∀ k ∈ l.faultOrder ++ [SlotName.status], (l.slot k).waiting = none) :
    l.choose = none := by
  unfold Link.choose
  rw [List.findSome?_eq_none_iff]
  intro k hk
  simp [h k hk]

theorem Link.mayStart_iff (l : Link) :
    l.mayStart = true ↔
      l.gapCount = 11 ∧ l.reading = .no ∧ l.transmitter = .free ∧ l.busStuck = false ∧ l.silence = false := by
  simp [Link.mayStart, Link.idle, and_assoc]

theorem Link.start_of_choice {l : Link} {k : SlotName} {f : Frame} (hmay : l.mayStart = true)
    (hchoice : l.choose = some (k, f)) :
    l.start =
      { (l.setSlot k { l.slot k with onLine := true }) with
        transmitter := .sending k f, reading := .frame, gapCount := 0, dominantRun := 1 } := by
  simp only [Link.start, hmay, hchoice, if_true]
  rfl

/-- Settles O41: the arbiter's choice, on the line as the bit boundary finds it. -/
theorem sendStart : Obligations.SendStart := by
  intro s hsupply u ready waits
  obtain ⟨hslot, horder, _⟩ := s.elapse_slots ((40 - s.timers.bitPhase) % 40)
  have hexec : exec .sendStart s =
      .next (if u.link.mayStart = true ∧ u.link.choose.isSome = true then u.modLink Link.start else s) :=
    act_of_live hsupply _
  have hwaiting : ∀ k f, waits k f ↔ (u.link.slot k).waiting = some f := fun k f => by
    rw [Slot.waiting_eq_some_iff, hslot]
  have hnone : ∀ k, (∀ f, ¬waits k f) → (u.link.slot k).waiting = none := fun k hno =>
    Option.eq_none_iff_forall_ne_some.2 fun f hf => hno f ((hwaiting k f).2 hf)
  refine ⟨fun hphase => ?_, fun k f before after hready hfirst hwaits hbefore => ?_, fun hidle => ?_⟩
  · rw [State.elapse_timers]
    simp only [Timers.advance]
    omega
  · have hchoice : u.link.choose = some (k, f) :=
      Link.choose_of_first (horder ▸ hfirst) ((hwaiting k f).1 hwaits) fun j hj => hnone j (hbefore j hj)
    have hmay : u.link.mayStart = true := (Link.mayStart_iff _).2 hready
    rw [hexec, if_pos ⟨hmay, by rw [hchoice]; rfl⟩, State.modLink, Link.start_of_choice hmay hchoice]
    rfl
  · rw [hexec, if_neg]
    rintro ⟨hmay, hsome⟩
    rcases hidle with hnot | hempty
    · exact hnot ((Link.mayStart_iff _).1 hmay)
    · rw [Link.choose_eq_none fun k hk => hnone k (hempty k (horder ▸ hk))] at hsome
      cases hsome

/-! ### A slot replaced (R149) -/

@[simp] theorem Link.setSlot_frame (l : Link) (k : SlotName) (v : Slot) :
    (l.setSlot k v).gapCount = l.gapCount ∧
    (l.setSlot k v).reading = l.reading ∧
    (l.setSlot k v).discardRun = l.discardRun ∧
    (l.setSlot k v).goodRun = l.goodRun ∧
    (l.setSlot k v).linkErrors = l.linkErrors ∧
    (l.setSlot k v).dominantRun = l.dominantRun ∧
    (l.setSlot k v).busStuck = l.busStuck ∧
    (l.setSlot k v).silence = l.silence ∧
    (l.setSlot k v).transmitter = l.transmitter ∧
    (l.setSlot k v).faultOrder = l.faultOrder := by
  cases k <;> exact ⟨rfl, rfl, rfl, rfl, rfl, rfl, rfl, rfl, rfl, rfl⟩

/-! ### Transmissions that end early (R159 to R161) -/

/-- What is read on after a bit error, and what becomes of a slot, are apart. -/
theorem Link.readRemains_setSlot (l : Link) (k : SlotName) (v : Slot) (bits : List Bool) :
    (l.readRemains bits).setSlot k v = (l.setSlot k v).readRemains bits := by
  unfold Link.readRemains
  cases judge bits <;> cases k <;> rfl

theorem Link.readRemains_slot (l : Link) (bits : List Bool) (k : SlotName) :
    (l.readRemains bits).slot k = l.slot k := by
  unfold Link.readRemains
  cases judge bits <;> cases k <;> rfl

theorem Link.readRemains_faultOrder (l : Link) (bits : List Bool) : (l.readRemains bits).faultOrder = l.faultOrder := by
  unfold Link.readRemains
  cases judge bits <;> rfl

theorem Link.freed_slot (l : Link) (n : Nat) (k : SlotName) :
    ({ l with transmitter := .free, dominantRun := n } : Link).slot k = l.slot k := by cases k <;> rfl

theorem Link.freed_setSlot (l : Link) (n : Nat) (k : SlotName) (v : Slot) :
    ({ l with transmitter := .free, dominantRun := n } : Link).setSlot k v =
      { l.setSlot k v with transmitter := .free, dominantRun := n } := by cases k <;> rfl

theorem losesArbitration_iff (f : Frame) (bit : Nat) :
    losesArbitration f bit = true ↔ 1 ≤ bit ∧ bit ≤ 7 ∧ f.lineBits.getD bit false = true := by
  simp [losesArbitration, and_assoc]

theorem isBitError_iff (f : Frame) (bit : Nat) :
    isBitError f bit = true ↔ bit < f.lineBits.length ∧ (f.lineBits.getD bit true = false ∨ 8 ≤ bit) := by
  simp [isBitError]

section Sending

variable {l : Link} {k : SlotName} {f : Frame} (h : l.transmitter = .sending k f) {bit : Nat}
include h

theorem Link.loseArbitration_of_lost (hlost : losesArbitration f bit = true) :
    l.loseArbitration bit =
      { (l.setSlot k { l.slot k with onLine := false }) with
        transmitter := .free, reading := .frame, dominantRun := dominantTail (readBack f bit) } := by
  simp only [Link.loseArbitration, h, hlost, if_true]
  rfl

/-- A bit error before the eighth keeps the content, with one attempt more (R160). -/
theorem Link.failBit_of_early (hwrong : isBitError f bit = true) (hfew : (l.slot k).attempts < 7) :
    l.failBit bit =
      { (l.setSlot k (l.slot k).failed).readRemains (readBack f bit) with
        transmitter := .free, dominantRun := dominantTail (readBack f bit) } := by
  simp only [Link.failBit, h, hwrong, if_true, Link.modSlot, Link.freed_slot, Link.readRemains_slot,
    Link.freed_setSlot, Link.readRemains_setSlot]
  exact if_neg (by omega)

/-- The eighth bit error drops the content (R161). -/
theorem Link.failBit_of_eighth (hwrong : isBitError f bit = true) (hmany : 7 ≤ (l.slot k).attempts) :
    l.failBit bit =
      { (l.setSlot k Slot.empty).readRemains (readBack f bit) with
        transmitter := .free, dominantRun := dominantTail (readBack f bit), linkErrors := true, goodRun := 0
        faultOrder := moveToEnd l.faultOrder k } := by
  simp only [Link.failBit, h, hwrong, if_true, Link.modSlot, Link.freed_slot, Link.readRemains_slot,
    Link.freed_setSlot, Link.readRemains_setSlot]
  rw [if_pos (by omega), Link.readRemains_faultOrder]

end Sending

/-- Settles O42: the three commands by what the bit is of the frame being sent. -/
theorem transmissionEndsEarly : Obligations.TransmissionEndsEarly := by
  intro bit k f s hsupply hsending sent bits run onward lost wrong sl read failed dropped
  have honward : ∀ l, onward l = l.readRemains bits := fun l => by
    simp only [onward, Link.readRemains]
    cases judge bits <;> rfl
  have hlost : lost ↔ s.link.losesAt bit = true := by
    rw [Link.losesAt, hsending]
    exact (losesArbitration_iff f bit).symm
  have hwrong : wrong ↔ isBitError f bit = true := (isBitError_iff f bit).symm
  have hfails : s.link.failsAt bit = isBitError f bit := by rw [Link.failsAt, hsending]
  have herror : wrong → exec (.bitError bit) s = .next (read fun l => l.failBit bit) := fun h => by
    show execBitError bit s = _
    simp only [execBitError, act_of_live hsupply, State.failBit, hfails, hwrong.1 h, if_true]
    rfl
  refine ⟨fun h => ?_, fun h => ?_, fun h hfew => ?_, fun h hmany => ?_, fun h => ?_⟩
  · show execLostArbitration bit s = _
    simp only [execLostArbitration, act_of_live hsupply, State.loseArbitration, hlost.1 h, if_true]
    rw [State.atBitRead, State.modLink, Link.loseArbitration_of_lost hsending ((losesArbitration_iff f bit).2 h)]
    rfl
  · exact act_of_fixed (if_neg (hlost.not.1 h))
  · rw [herror h]
    simp only [failed, read, honward, Link.failBit_of_early hsending (hwrong.1 h) hfew]
    rfl
  · have hdropped : read (fun l => l.failBit bit) = dropped := by
      simp only [dropped, read, honward, Link.failBit_of_eighth hsending (hwrong.1 h) hmany]
      rfl
    have hlast : s.link.atLastAttempt = true := by
      rw [Link.atLastAttempt, hsending]
      exact decide_eq_true (Nat.succ_le_succ hmany)
    refine ⟨hdropped ▸ herror h, ?_⟩
    rw [← hdropped, ← herror h]
    show execSlotDrop bit s = _
    simp only [execSlotDrop, act_of_live hsupply, hlast, if_true]
    exact (act_of_live hsupply _).symm
  · exact act_of_fixed (if_neg (by rw [hfails]; exact hwrong.not.1 h))

end Sys2Proof.Machine
end

section
/-! PROOF. The line's reads outside a frame (O44), and the STATUS timer and the fault pulse (O45). -/

namespace Sys2Proof.Machine

/-! ### The line's reads outside a frame (R145, R154) -/

theorem Link.quiet_iff (l : Link) : l.quiet = true ↔ l.reading = .no ∧ l.transmitter = .free := by
  simp [Link.quiet]

theorem Link.idle_iff (l : Link) : l.idle = true ↔ l.reading = .no ∧ l.gapCount = 11 := by
  simp [Link.idle, and_comm]

/-- A dominant bit read outside a frame is a start bit on an idle line alone (R145). -/
theorem Link.dominantBit_of_no {l : Link} (h : l.reading = .no) :
    l.dominantBit =
      { l with
        gapCount := 0
        reading := if l.reading = .no ∧ l.gapCount = 11 then .frame else .no
        dominantRun := min 40 (l.dominantRun + 1)
        busStuck := l.busStuck || decide (39 ≤ l.dominantRun) } := by
  have hforty : bump 40 l.dominantRun = 40 ↔ 39 ≤ l.dominantRun := by unfold bump; omega
  unfold Link.dominantBit
  split
  · simp only [Link.dominantRead, hforty, Link.idle_iff]
    rfl
  · next hframe => simp [h] at hframe
  · next hown => simp [h] at hown

/-- A sticking line ends the frame read, and the one that it opens on an idle line; both count as discards (R151, R152). -/
theorem Link.stick_eq (l : Link) :
    let discards := l.reading = .frame ∨ l.reading = .no ∧ l.gapCount = 11;
    l.stick =
      { l with
        reading := .no, gapCount := 0, dominantRun := 40, busStuck := true
        goodRun := if discards then 0 else l.goodRun
        discardRun := if discards then min 3 (l.discardRun + 1) else l.discardRun
        linkErrors := l.linkErrors || (decide discards && decide (2 ≤ l.discardRun)) } := by
  intro discards
  obtain hno | hframe | hown : l.reading = .no ∨ l.reading = .frame ∨ l.reading = .ownRemains := by
    cases l.reading <;> simp
  · by_cases hgap : l.gapCount = 11 <;> simp [Link.stick, Link.idle_iff, Link.countDiscard_eq, discards, hno, hgap]
  · simp [Link.stick, Link.countDiscard_eq, discards, hframe]
  · simp [Link.stick, discards, hown]

/-- Settles O44: the reads by the time that passes to them and by what the link makes of them. -/
theorem lineReads : Obligations.LineReads := by
  intro s hsupply hfree hphase toRead first opens discards
  refine ⟨?_, fun hno => ?_, fun hread => ?_, fun hrun => ?_, fun hrun => ?_, fun hno hgap => ?_, fun hnot => ?_⟩
  · simp only [toRead]
    omega
  · show execStartBit s = _
    simp only [execStartBit, act_of_live hsupply]
    rw [if_pos ⟨hfree, hno⟩]
    show Host.Outcome.next ({ s.passDominant 1 with link := s.link.dominantBit } : State) = _
    rw [Link.dominantBit_of_no hno]
    rfl
  · refine act_of_fixed (if_neg fun h => hread h.2)
  · have hreads : 40 - s.link.dominantRun = 39 - s.link.dominantRun + 1 := by omega
    show execBusStuck s = _
    simp only [execBusStuck, act_of_live hsupply]
    rw [if_pos ⟨hfree, hrun⟩, hreads]
    show Host.Outcome.next ({ s.passDominant (39 - s.link.dominantRun + 1) with link := s.link.stick } : State) = _
    rw [Link.stick_eq]
    rfl
  · exact act_of_fixed (if_neg fun h => absurd h.2 (by omega))
  · have hreads : bitReads s.timers.bitPhase (toRead + 40 * (10 - s.link.gapCount)) = 10 - s.link.gapCount + 1 :=
      bitReads_ticksToRead hphase _
    have hfull : s.link.gapCount + (10 - s.link.gapCount + 1) = 11 := by omega
    have hlink : (s.elapse (toRead + 40 * (10 - s.link.gapCount))).link =
        { s.link with gapCount := 11, dominantRun := 0, busStuck := false } := by
      rw [State.elapse_link_eq, if_pos ⟨hno, hfree, hreads ▸ Nat.succ_pos _⟩, hreads, hfull]
      simp
    show execBusStuckCleared s = _
    simp only [execBusStuckCleared, act_of_live hsupply]
    rw [if_pos ⟨(Link.quiet_iff _).2 ⟨hno, hfree⟩, hgap⟩, ← hlink, ← State.elapse_timers]
    exact congrArg _ (s.elapse_eq_timers_link _)
  · refine act_of_fixed (if_neg fun h => ?_)
    obtain ⟨hquiet, hgap⟩ := h
    rcases hnot with hreading | hfull
    · exact hreading ((Link.quiet_iff _).1 hquiet).1
    · omega

/-! ### Two timers (R155, R156, R178) -/

/-- Settles O45: the time that passes to each end, and what the end does. -/
theorem timerExpiries : Obligations.TimerExpiries := by
  intro n c s hsupply
  refine ⟨fun hstatus => ?_, fun hstopped => ?_, fun hpulse => ?_, fun hstopped => ?_⟩
  · intro passed u
    have hexec : exec .statusTimerExpiry s = .next u.queueStatus := by
      show execStatusTimerExpiry s = _
      simp only [execStatusTimerExpiry, act_of_live hsupply, hstatus]
      rfl
    obtain ⟨_, _, hsilence⟩ : _ ∧ _ ∧ u.link.silence = s.link.silence := s.elapse_slots _
    refine ⟨fun howed hticks => ?_, fun hsilent => ?_, fun hheard => ?_⟩
    · have hend : c.advance 500000 (500000 - c.ticks) = ⟨0, 1⟩ := by
        simpa [Cyclic.toEnd, howed] using Cyclic.advance_toEnd howed hticks
      simp [u, passed, State.elapse_timers, Timers.advance, hstatus, howed, hend]
    · rw [hexec, State.queueStatus_eq, if_pos (hsilence.trans hsilent)]
    · rw [hexec, State.queueStatus_eq, if_neg (by simp [hsilence, hheard])]
  · show execStatusTimerExpiry s = _
    simp [execStatusTimerExpiry, act_of_live hsupply, hstopped]
  · show execFaultPulseExpiry s = _
    simp only [execFaultPulseExpiry, act_of_live hsupply, hpulse]
    rfl
  · show execFaultPulseExpiry s = _
    simp [execFaultPulseExpiry, act_of_live hsupply, hstopped]

end Sys2Proof.Machine
end

section
/-! PROOF. Each of the link's operations keeps the slots, the transmitter and the silence in agreement. -/

namespace Sys2Proof.Machine

/-! ### The link's operations (R149, R151 to R162) -/

/-- A slot of the order moves to its end, and the order holds the slots it held (R158). -/
theorem moveToEnd_perm {order : List SlotName} (hnodup : order.Nodup) (k : SlotName) : (moveToEnd order k).Perm order := by
  unfold moveToEnd
  split
  · next hk =>
    have hrest : (order.filter fun j => decide (j ≠ k)) = order.erase k := by
      rw [hnodup.erase_eq_filter]
      exact List.filter_congr fun j _ => by by_cases hj : j = k <;> simp [hj]
    rw [hrest]
    exact (List.perm_append_singleton k _).trans (List.perm_cons_erase hk).symm
  · exact .refl _

/-- The arbiter's choice waits in its slot (R158). -/
theorem Link.waiting_of_choice {l : Link} {k : SlotName} {f : Frame} (h : l.choose = some (k, f)) :
    (l.slot k).waiting = some f := by
  obtain ⟨j, _, hj⟩ := List.exists_of_findSome?_eq_some h
  obtain ⟨g, hg, heq⟩ := Option.map_eq_some_iff.1 hj
  cases heq
  exact hg

namespace Link.Sound

variable {l : Link} (h : l.Sound)
include h

/-! ### The runs (R152) -/

theorem countGood : l.countGood.Sound := { h with discardRun := Nat.zero_le _, goodRun := bump_le 16 _ }

theorem countDiscard : l.countDiscard.Sound := { h with discardRun := bump_le 3 _, goodRun := Nat.zero_le _ }

/-! ### Reads, while the part sends nothing (R145, R147, R154) -/

/-- Where the part sends nothing the reading and the counts of the line change freely. -/
theorem line (hfree : l.transmitter = .free) {gapCount dominantRun : Nat} (hgap : gapCount ≤ 11)
    (hdominant : dominantRun ≤ 40) (reading : Reading) (busStuck : Bool) :
    Link.Sound
      { l with gapCount := gapCount, reading := reading, dominantRun := dominantRun, busStuck := busStuck } :=
  { h with
    gapCount := hgap
    dominantRun := hdominant
    sending := fun k f hsending => by rw [show l.transmitter = _ from hsending] at hfree; cases hfree }

theorem recessiveReads (k : Nat) : (l.recessiveReads k).Sound := by
  unfold Link.recessiveReads
  split
  · exact h
  · exact { h with gapCount := min_le_left _ _, dominantRun := Nat.zero_le _ }

theorem endFrame (hfree : l.transmitter = .free) : l.endFrame.Sound :=
  h.line hfree (by decide) (by decide) .no l.busStuck

theorem discard (hfree : l.transmitter = .free) (bits : List Bool) : (l.discard bits).Sound := by
  have haborted : ∀ n, Link.Sound
      { l with reading := .no, gapCount := 0, dominantRun := min 40 (dominantTail (bits.take n)) } := fun n =>
    h.line hfree (Nat.zero_le _) (min_le_left _ _) .no l.busStuck
  simp only [Link.discard]
  split
  · split
    · exact (haborted _).countDiscard
    · exact haborted _
  · split
    · exact (h.endFrame hfree).countDiscard
    · exact h.endFrame hfree
  · exact h
  · exact h

/-- The line sticks (R154): the frame read ends, and is counted or not. -/
theorem stick (hfree : l.transmitter = .free) : l.stick.Sound := by
  have hended : Link.Sound { l with reading := .no, gapCount := 0 } :=
    h.line hfree (Nat.zero_le _) h.dominantRun .no l.busStuck
  have hstuck : ∀ {u : Link}, u.Sound → u.transmitter = .free →
      Link.Sound { u with dominantRun := 40, busStuck := true } := fun hu hufree =>
    hu.line hufree hu.gapCount le_rfl _ true
  unfold Link.stick
  cases l.reading with
  | no =>
    simp only
    split
    · exact hstuck hended.countDiscard hfree
    · exact hstuck hended hfree
  | frame => exact hstuck hended.countDiscard hfree
  | ownRemains => exact hstuck hended hfree

theorem dominantBit (hfree : l.transmitter = .free) : l.dominantBit.Sound := by
  unfold Link.dominantBit
  split
  · exact h.line hfree (Nat.zero_le _) (bump_le 40 _) _ _
  · exact h
  · exact h

/-- The clash empties the slots, on a transmitter that is free (R153). -/
theorem silenced (hfree : l.transmitter = .free) : l.silenced.Sound :=
  { h with
    slot := fun k => by cases k <;> exact Slot.empty_sound _ _
    sending := fun k f hsending => by rw [show l.transmitter = _ from hsending] at hfree; cases hfree
    silent := fun _ => ⟨hfree, fun k => by cases k <;> rfl⟩ }

/-! ### Sending (R155, R158 to R162) -/

/-- One slot replaced, with the transmitter and the reading that go with it. The silence is off, since it leaves nothing to send
(R153). -/
theorem replace (hheard : l.silence = false) {k : SlotName} {v : Slot} {t : Transmitter} {r : Reading} (hv : v.Sound k t)
    (hothers : ∀ j, j ≠ k → (l.slot j).Sound j t)
    (hsending : ∀ j f, t = .sending j f → (if j = k then v else l.slot j).content.isSome = true ∧ r = .frame) :
    Link.Sound { l.setSlot k v with transmitter := t, reading := r } where
  gapCount := by simpa using h.gapCount
  discardRun := by simpa using h.discardRun
  goodRun := by simpa using h.goodRun
  dominantRun := by simpa using h.dominantRun
  order := by simpa using h.order
  slot := fun j => by
    show ((l.setSlot k v).slot j).Sound j t
    rw [Link.slot_setSlot]
    split
    · next hj => exact hj ▸ hv
    · next hj => exact hothers j hj
  sending := fun j f hjf => by
    show ((l.setSlot k v).slot j).content.isSome = true ∧ r = .frame
    rw [Link.slot_setSlot]
    exact hsending j f hjf
  silent := fun hsilent => by simp [hheard] at hsilent

/-- A content that is not refused waits in its slot; where the old one is being sent, the new one takes its place there
(R155). -/
theorem queue (hheard : l.silence = false) (k : SlotName) (f : Frame) : (l.modSlot k fun sl => sl.queue f).Sound := by
  have hqueued := h.replace (k := k) (r := l.reading) hheard ((h.slot k).queue f l.transmitter) (fun j _ => h.slot j)
    fun j g hjg => by
      obtain ⟨hcontent, hreading⟩ := h.sending j g hjg
      refine ⟨?_, hreading⟩
      split
      · rfl
      · exact hcontent
  have hsame : l.modSlot k (fun sl => sl.queue f) =
      { l.setSlot k ((l.slot k).queue f) with transmitter := l.transmitter, reading := l.reading } := by
    cases k <;> rfl
  rwa [hsame]

/-- While nothing is sent no slot has the mark (R158). -/
theorem unmarked_of_free (hfree : l.transmitter = .free) (j : SlotName) : (l.slot j).onLine = false := by
  by_contra hon
  obtain ⟨g, hg, _⟩ := (h.slot j).onLine (by simpa using hon)
  rw [hfree] at hg
  cases hg

/-- While one slot's frame is sent no other slot has the mark (R158). -/
theorem unmarked_of_sending {k : SlotName} {f : Frame} (hsending : l.transmitter = .sending k f) {j : SlotName}
    (hj : j ≠ k) : (l.slot j).onLine = false := by
  by_contra hon
  obtain ⟨g, hg, _⟩ := (h.slot j).onLine (by simpa using hon)
  rw [hsending] at hg
  cases hg
  exact hj rfl

theorem heard_of_sending {k : SlotName} {f : Frame} (hsending : l.transmitter = .sending k f) : l.silence = false := by
  by_contra hsilent
  obtain ⟨hfree, _⟩ := h.silent (by simpa using hsilent)
  rw [hsending] at hfree
  cases hfree

/-- The arbiter marks the content that it sends (R158). -/
theorem start : l.start.Sound := by
  unfold Link.start
  split
  · next hmay =>
    obtain ⟨_, _, hfree, _, hheard⟩ := (Link.mayStart_iff l).1 hmay
    split
    · exact h
    · next k f hchoice =>
      obtain ⟨hcontent, _⟩ := (Slot.waiting_eq_some_iff _ _).1 (Link.waiting_of_choice hchoice)
      have hmarked : Slot.Sound { l.slot k with onLine := true } k (.sending k f) :=
        { h.slot k with
          empty := fun hnone => by cases hcontent.symm.trans hnone
          onLine := fun _ => ⟨f, rfl, hcontent⟩ }
      have hstarted := h.replace (r := .frame) hheard hmarked
        (fun j _ => (h.slot j).of_unmarked (h.unmarked_of_free hfree j) _) fun j g hjg => by
          cases hjg
          exact ⟨by simp [hcontent], rfl⟩
      exact { hstarted with gapCount := Nat.zero_le _, dominantRun := (by decide : 1 ≤ 40) }
  · exact h

/-- The end of a transmission: the transmitter is free, and the slot holds what is left of its content. -/
theorem freed {k : SlotName} {f : Frame} (hsending : l.transmitter = .sending k f) {v : Slot} (hv : v.Sound k .free)
    (r : Reading) : Link.Sound { l.setSlot k v with transmitter := .free, reading := r } :=
  h.replace (h.heard_of_sending hsending) hv
    (fun j hj => (h.slot j).of_unmarked (h.unmarked_of_sending hsending hj) .free) nofun

theorem reorder (k : SlotName) : Link.Sound { l with faultOrder := moveToEnd l.faultOrder k } :=
  { h with order := (moveToEnd_perm (h.order.nodup_iff.2 (by decide)) k).trans h.order }

theorem loseArbitration (bit : Nat) : (l.loseArbitration bit).Sound := by
  cases hsending : l.transmitter with
  | free => simpa only [Link.loseArbitration, hsending] using h
  | sending k f =>
    cases hlost : losesArbitration f bit with
    | false => simpa [Link.loseArbitration, hsending, hlost] using h
    | true =>
      rw [Link.loseArbitration_of_lost hsending hlost]
      exact { h.freed hsending ((h.slot k).unmark .free) .frame with dominantRun := dominantTail_readBack f bit }

/-- The part reads on after a bit error, or the frame ends (R147, R151). -/
theorem readOn {k : SlotName} {f : Frame} (hsending : l.transmitter = .sending k f) {v : Slot} (hv : v.Sound k .free)
    (bits : List Bool) {n : Nat} (hn : n ≤ 40) :
    Link.Sound { (l.setSlot k v).readRemains bits with transmitter := .free, dominantRun := n } := by
  rcases (l.setSlot k v).readRemains_cases bits with ⟨_, _, hread⟩ | ⟨_, hread⟩
  · rw [hread]
    exact { h.freed hsending hv .no with gapCount := Nat.zero_le _, dominantRun := hn }
  · rw [hread]
    exact { h.freed hsending hv .ownRemains with dominantRun := hn }

theorem failBit (bit : Nat) : (l.failBit bit).Sound := by
  cases hsending : l.transmitter with
  | free => simpa only [Link.failBit, hsending] using h
  | sending k f =>
    cases hwrong : isBitError f bit with
    | false => simpa [Link.failBit, hsending, hwrong] using h
    | true =>
      have hrun := dominantTail_readBack f bit
      rcases Nat.lt_or_ge (l.slot k).attempts 7 with hearly | height
      · rw [Link.failBit_of_early hsending hwrong hearly]
        obtain ⟨hcontent, _⟩ := h.sending k f hsending
        exact h.readOn hsending (Slot.failed_sound (Nat.succ_lt_succ hearly) hcontent k .free) _ hrun
      · rw [Link.failBit_of_eighth hsending hwrong height]
        have hdropped := h.readOn hsending (Slot.empty_sound k .free) (readBack f bit) hrun
        exact { hdropped with goodRun := Nat.zero_le _, order := (h.reorder k).order }

theorem complete {k : SlotName} {f : Frame} (hsending : l.transmitter = .sending k f) : (l.complete k).Sound := by
  have hfreed := (h.reorder k).freed hsending ((h.slot k).completed .free) .no
  have hsame : l.complete k =
      ({ ({ l with faultOrder := moveToEnd l.faultOrder k } : Link).setSlot k (l.slot k).completed with
          transmitter := .free, reading := .no } : Link).endFrame.countGood := by
    cases k <;> rfl
  rw [hsame]
  exact (hfreed.endFrame rfl).countGood

end Link.Sound

end Sys2Proof.Machine
end

section
/-! PROOF. The send slots, the transmitter and the silence under every step (O59): every block's operations reach the link
through its own operations alone. -/

namespace Sys2Proof.Machine

/-! ### The link in a state -/

/-- The link of a state in agreement. -/
structure State.LinkKept (s : State) : Prop where
  link : s.link.Sound

namespace State.LinkKept

variable {s : State} (h : s.LinkKept)
include h

/-- An operation that leaves the link as it is. -/
theorem frame {t : State} (hlink : t.link = s.link := by simp) : t.LinkKept := ⟨hlink ▸ h.link⟩

omit h in
theorem ite {p : Prop} [Decidable p] {u v : State} (hu : u.LinkKept) (hv : v.LinkKept) :
    (if p then u else v).LinkKept := by
  split
  · exact hu
  · exact hv

theorem modTimers (f : Timers → Timers) : (s.modTimers f).LinkKept := h.frame

theorem modDecoder (f : Decoder → Decoder) : (s.modDecoder f).LinkKept := h.frame

theorem modFaults (f : Faults → Faults) : (s.modFaults f).LinkKept := h.frame

theorem modMeter (ch : Channel) (f : Meter → Meter) : (s.modMeter ch f).LinkKept := h.frame

theorem modSequencer (ch : Channel) (f : Sequencer → Sequencer) : (s.modSequencer ch f).LinkKept := h.frame

theorem modController (ch : Channel) (f : Controller → Controller) : (s.modController ch f).LinkKept := h.frame

theorem modDriver (ch : Channel) (f : Driver → Driver) : (s.modDriver ch f).LinkKept := h.frame

theorem modSense (f : Sense → Sense) : (s.modSense f).LinkKept := h.frame

theorem setChannelState (ch : Channel) (new : ChannelState) : (s.setChannelState ch new).LinkKept := h.frame

theorem startPulse : s.startPulse.LinkKept := h.frame

theorem returnRunning : s.returnRunning.LinkKept := h.frame

/-- Time that passes is read as recessive bits only where nothing is read or sent (R145). -/
theorem elapse (n : Nat) : (s.elapse n).LinkKept := by
  refine ⟨?_⟩
  rw [State.elapse_link]
  split
  · exact h.link.recessiveReads _
  · exact h.link

theorem elapseTo (stamp : Tick) : (s.elapseTo stamp).LinkKept := h.elapse _

theorem completeSlot : s.completeSlot.LinkKept := (h.elapse _).modTimers _

/-! ### Contents for the slots (R155, R156, R157) -/

theorem offer (k : SlotName) (f : Frame) : (s.offer k f).LinkKept := by
  refine ⟨?_⟩
  rw [State.offer_link]
  split
  · exact h.link
  · next hheard => exact h.link.queue (by simpa using hheard) k f

theorem queueStatus : s.queueStatus.LinkKept := h.offer _ _

theorem latchChannel (ch : Channel) (k : ChannelFault) : (s.latchChannel ch k).LinkKept :=
  ite h (((h.modFaults _).setChannelState ch .fault).offer _ _).startPulse

theorem latchStation (k : StationFault) : (s.latchStation k).LinkKept := by
  have hshown : ∀ f g, (((s.modFaults f).offer .faultStation g).startPulse).LinkKept := fun f _ =>
    ((h.modFaults f).offer _ _).startPulse
  refine ite h (returnRunning ?_)
  cases k with
  | oilpSensor => exact (hshown _ _).frame rfl
  | addressClash => exact hshown _ _
  | crankUnstable => exact hshown _ _

/-! ### The meters' and the channels' events -/

theorem revolutionTest (ch : Channel) : (s.revolutionTest ch).LinkKept :=
  ite ((h.modMeter ch _).latchChannel ch .camLost) (h.modMeter ch _)

theorem noiseTest (ch : Channel) : (s.noiseTest ch).LinkKept :=
  ite ((h.modMeter ch _).latchChannel ch .camNoise) (h.modMeter ch _)

theorem parkLearning (ch : Channel) : (s.parkLearning ch).LinkKept :=
  ite (ite (h.modMeter ch _) (h.latchChannel ch .parkOffsetRange)) h

theorem meterCycleReference (ch : Channel) : (s.meterCycleReference ch).LinkKept :=
  (((h.parkLearning ch).modMeter ch _).noiseTest ch).modMeter ch _

theorem trackErrorUpdate (ch : Channel) (e : Int) : (s.trackErrorUpdate ch e).LinkKept :=
  ite (ite ((h.modController ch _).latchChannel ch .trackError) (h.modController ch _)) (h.modController ch _)

theorem controlUpdate (ch : Channel) (phase : Int) : (s.controlUpdate ch phase).LinkKept := by
  have htested : ∀ f i g e, ((((s.modController ch f).setCommand ch i).modController ch g).reachedTest ch e).LinkKept :=
    fun _ _ _ _ => h.frame
  exact ((htested _ _ _ _).modController ch _).trackErrorUpdate ch _

theorem trackingEvent (ch : Channel) (phase : Int) : (s.trackingEvent ch phase).LinkKept := by
  have hramped : (s.ramp ch).LinkKept := h.frame
  exact ite hramped.frame (hramped.controlUpdate ch phase)

theorem phaseMeasured (ch : Channel) (phase : Int) : (s.phaseMeasured ch phase).LinkKept := by
  unfold State.phaseMeasured
  split
  · exact ite h.frame h
  · exact h.frame
  · exact h.trackingEvent ch phase
  · exact h.frame
  · exact h

theorem releaseTick (ch : Channel) : (s.releaseTick ch).LinkKept := by
  have htimed : ∀ f g, ((s.modSequencer ch f).modSequencer ch g).LinkKept := fun f g =>
    (h.modSequencer ch f).modSequencer ch g
  exact ite (ite ((htimed _ _).latchChannel ch .lockStuck) ((htimed _ _).setChannelState ch .parked))
    (h.modSequencer ch _)

theorem returnTick (ch : Channel) : (s.returnTick ch).LinkKept :=
  ite ((h.modSequencer ch _).latchChannel ch .noReturn) (h.modSequencer ch _)

theorem sequencerTick (ch : Channel) : (s.sequencerTick ch).LinkKept := by
  have hreleased : ∀ u : State, u.LinkKept → (if u.channelState ch = .releasing then u.releaseTick ch else u).LinkKept :=
    fun u hu => ite (hu.releaseTick ch) hu
  have hreturned : ∀ u : State, u.LinkKept → (if u.channelState ch = .returning then u.returnTick ch else u).LinkKept :=
    fun u hu => ite (hu.returnTick ch) hu
  exact hreturned _ (hreleased _ (ite (h.modSequencer ch _) h))

/-! ### The cycle reference at every block -/

theorem sequencerCycleReference : s.sequencerCycleReference.LinkKept := by
  have haged : s.engineAging.LinkKept := h.frame
  rw [State.sequencerCycleReference, State.eachChannel_def]
  exact (haged.sequencerTick .a).sequencerTick .b

theorem takeCycleReference (b : CycleBlock) : (s.takeCycleReference b).LinkKept := by
  unfold State.takeCycleReference
  cases b with
  | meterA => exact h.meterCycleReference .a
  | meterB => exact h.meterCycleReference .b
  | sequencer => exact h.sequencerCycleReference
  | statusAssembly => exact h.queueStatus
  | target | oil | driverA | driverB => exact h.frame

theorem cycleReference (order : List CycleBlock) : (s.cycleReference order).LinkKept := by
  unfold State.cycleReference
  generalize blockOrder order = blocks
  induction blocks generalizing s with
  | nil => exact h
  | cons b bs ih => exact ih (h.takeCycleReference b)

/-! ### The decoder's events -/

theorem publishSyncLost : s.publishSyncLost.LinkKept := h.frame

theorem publishRevolution : s.publishRevolution.LinkKept := (h.revolutionTest .a).revolutionTest .b

theorem countLoss : s.countLoss.LinkKept :=
  ite ((h.modDecoder _).latchStation .crankUnstable) (h.modDecoder _)

theorem toothError (t : Tick) : (s.toothError t).LinkKept := (h.modDecoder _).publishSyncLost.countLoss

theorem closeRevolution (t : Tick) (order : List CycleBlock) : (s.closeRevolution t order).LinkKept := by
  unfold State.closeRevolution
  split
  · exact (h.modDecoder _).publishRevolution
  · exact (h.modDecoder _).publishRevolution.cycleReference order
  · exact (h.modDecoder _).publishRevolution

theorem syncedEdge (t : Tick) (order : List CycleBlock) : (s.syncedEdge t order).LinkKept := by
  simp only [State.syncedEdge]
  split
  · exact ite (ite (h.modDecoder _) (h.toothError t)) (ite (h.closeRevolution t order) (h.toothError t))
  · exact h.toothError t

theorem crankEdge (t : Tick) (order : List CycleBlock) : (s.crankEdge t order).LinkKept := by
  refine ite h ?_
  split
  · exact h.modDecoder _
  · exact h.frame
  · exact h.syncedEdge t order
  · exact h.syncedEdge t order

theorem measureEdge (ch : Channel) (angle : Nat) : (s.measureEdge ch angle).LinkKept := by
  simp only [State.measureEdge]
  split
  · exact h.modMeter ch _
  · exact ite (h.modMeter ch _) ((h.modMeter ch _).phaseMeasured ch _)

theorem captureEdge (ch : Channel) (angle : Option Nat) : (s.captureEdge ch angle).LinkKept := by
  have hseen := h.modMeter ch fun m => { m with edgeSeen := true, missing := 0 }
  cases angle with
  | none => exact hseen
  | some a => exact hseen.measureEdge ch a

theorem camEdge (ch : Channel) (t : Tick) : (s.camEdge ch t).LinkKept := by
  have hgained : ∀ f g, ((s.modDecoder f).modDecoder g).publishCycleSync.LinkKept := fun _ _ => h.frame
  simp only [State.camEdge]
  split
  · exact h
  · exact h
  · exact ite ((hgained _ _).captureEdge ch _) ((h.modDecoder _).captureEdge ch none)
  · exact ite (((h.modDecoder _).modDecoder _).publishSyncLost.captureEdge ch none).countLoss
      ((h.modDecoder _).captureEdge ch _)

theorem deliverEdge (pin : AnglePin) (t : Tick) (order : List CycleBlock) : (s.deliverEdge pin t order).LinkKept := by
  unfold State.deliverEdge
  split
  · exact h.crankEdge t order
  · exact h.camEdge _ t

/-! ### Samples -/

theorem openCoilTest (ch : Channel) (sample : Nat) : (s.openCoilTest ch sample).LinkKept :=
  ite (ite ((h.modDriver ch _).latchChannel ch .openCoil) (h.modDriver ch _)) (h.modDriver ch _)

theorem tripDriver (ch : Channel) : (s.tripDriver ch).LinkKept := (h.modDriver ch _).latchChannel ch .overcurrent

theorem rangeCheck (code : Code12) : (s.rangeCheck code).LinkKept :=
  ite (h.modSense _) (ite ((h.modSense _).latchStation .oilpSensor) (h.modSense _))

/-! ### Frames and the part's own transmissions -/

/-- A delivered frame leaves the link, but for a RESTART, which resets it (R174). -/
theorem deliver (f : Frame) (straps : Straps) : (s.deliver f straps).LinkKept := by
  unfold State.deliver
  cases frameUse f with
  | restart => exact ite ⟨Link.atReset_sound⟩ h
  | target | engine | status | clear | config | close => exact h.frame
  | unused => exact h

theorem receive (f : Frame) (straps : Straps) : (s.receive f straps).LinkKept := by
  unfold State.receive
  split
  · next hhears =>
    obtain ⟨hfree, _⟩ := (Link.hears_iff _).1 hhears
    have hgood := (h.link.endFrame hfree).countGood
    have hread : (s.atBitRead fun l => l.endFrame.countGood).LinkKept := ⟨hgood⟩
    have hsilenced : ((s.atBitRead fun l => l.endFrame.countGood).modLink Link.silenced).LinkKept := ⟨hgood.silenced hfree⟩
    exact ite (hsilenced.latchStation .addressClash) (ite (hread.deliver f straps) hread)
  · exact h

theorem discard (bits : List Bool) : (s.discard bits).LinkKept := by
  unfold State.discard
  split
  · next hdue =>
    obtain ⟨⟨hhears, _⟩, _⟩ : (_ ∧ _) ∧ _ := by simpa using hdue
    obtain ⟨hfree, _⟩ := (Link.hears_iff _).1 hhears
    exact ⟨h.link.discard hfree bits⟩
  · exact h

theorem loseArbitration (bit : Nat) : (s.loseArbitration bit).LinkKept := ite ⟨h.link.loseArbitration bit⟩ h

theorem failBit (bit : Nat) : (s.failBit bit).LinkKept := ite ⟨h.link.failBit bit⟩ h

theorem completeTransmission : s.completeTransmission.LinkKept := by
  unfold State.completeTransmission
  split
  · exact h
  · next k f hsending =>
    have hread : (s.atBitRead fun l => l.complete k).LinkKept := ⟨h.link.complete hsending⟩
    exact ite hread.frame hread

end State.LinkKept

/-! ### Commands and steps -/

theorem act_linkKept {s t : State} {f : State → State} (h : s.LinkKept) (hact : act s f = .next t)
    (hf : (f s).LinkKept) : t.LinkKept := by
  obtain rfl : (if s.supplyLow then s else f s) = t := Host.Outcome.next.inj hact
  exact .ite h hf

theorem execPowerOnReset_linkKept {s t : State} {edge : SupplyEdge} {pins : StrapPins} (h : s.LinkKept)
    (hexec : execPowerOnReset edge pins s = .next t) : t.LinkKept := by
  cases edge with
  | falls => cases hexec; exact ⟨Link.atReset_sound⟩
  | rises =>
    obtain rfl := Host.Outcome.next.inj hexec
    exact .ite ⟨Link.atReset_sound⟩ h

theorem execFilterTimeExpiry_linkKept {s t : State} {pin : AnglePin} {order : List CycleBlock} (h : s.LinkKept)
    (hexec : execFilterTimeExpiry pin order s = .next t) : t.LinkKept := by
  refine act_linkKept h hexec ?_
  split
  · exact h
  · have hrecognised : ∀ n, ((s.elapse n).recognise pin).LinkKept := fun n => (h.elapse n).frame
    simp only
    split
    · exact hrecognised _
    · exact (hrecognised _).deliverEdge pin _ order

/-- The commands that reach the link by their operations, and every other command by what it leaves. -/
theorem exec_linkKept {c : Instr} {s t : State} (h : s.LinkKept) (hexec : exec c s = .next t) : t.LinkKept := by
  cases c with
  | powerOnReset => exact execPowerOnReset_linkKept h hexec
  | filterTimeExpiry => exact execFilterTimeExpiry_linkKept h hexec
  | parkPinChange => cases hexec; exact h.frame rfl
  | filterCandidateOpen pin stamp =>
    have hopened : ((s.elapseTo stamp).openCandidate pin stamp).LinkKept := (h.elapseTo stamp).frame
    change execFilterCandidateOpen pin stamp s = .next t at hexec
    dsimp only [execFilterCandidateOpen] at hexec
    exact act_linkKept h hexec (.ite h hopened)
  | stallTimerExpiry =>
    have hstalled : ∀ n, (s.elapse n).stall.LinkKept := fun n => (h.elapse n).frame
    exact act_linkKept h hexec (.ite (hstalled _) h)
  | crankUnstable => exact act_linkKept h hexec (.ite h.countLoss h)
  | camLost ch => exact act_linkKept h hexec (.ite (h.revolutionTest ch) h)
  | camNoise ch => exact act_linkKept h hexec (.ite (h.noiseTest ch) h)
  | target | status | engine | clear | config | close | restart | faultFrameReceived =>
    exact act_linkKept h hexec (h.receive _ _)
  | framePassedOver | addressClash => exact act_linkKept h hexec (.ite (h.receive _ _) h)
  | releaseTimeout ch => exact act_linkKept h hexec (.ite (h.releaseTick ch) h)
  | noReturn ch => exact act_linkKept h hexec (.ite (h.returnTick ch) h)
  | currentSample ch => exact act_linkKept h hexec (.ite ((h.completeSlot.modSense _).openCoilTest ch _) h)
  | oilpSample => exact act_linkKept h hexec (.ite ((h.completeSlot.modSense _).rangeCheck _) h)
  | oilpSensor => exact act_linkKept h hexec (.ite (h.rangeCheck _) h)
  | vsupSample | tdieSample => exact act_linkKept h hexec (.ite h.completeSlot.frame h)
  | pwmPeriodStart ch =>
    change execPwmPeriodStart ch s = .next t at hexec
    dsimp only [execPwmPeriodStart] at hexec
    exact act_linkKept h hexec (((h.elapse _).modTimers _).modDriver ch _)
  | onTimeEnd ch => exact act_linkKept h hexec (.ite ((h.elapse _).modDriver ch _) h)
  | frameDiscarded bits => exact act_linkKept h hexec (h.discard bits)
  | linkErrors => exact act_linkKept h hexec (.ite ⟨h.link.countDiscard⟩ h)
  | linkErrorsCleared => exact act_linkKept h hexec (.ite ⟨h.link.countGood⟩ h)
  | sendStart => exact act_linkKept h hexec (.ite ⟨(h.elapse _).link.start⟩ h)
  | lostArbitration bit => exact act_linkKept h hexec (h.loseArbitration bit)
  | bitError bit => exact act_linkKept h hexec (h.failBit bit)
  | slotDrop bit => exact act_linkKept h hexec (.ite (h.failBit bit) h)
  | transmissionComplete => exact act_linkKept h hexec h.completeTransmission
  | busStuckCleared => exact act_linkKept h hexec (.ite (h.elapse _) h)
  | busStuck =>
    refine act_linkKept h hexec ?_
    split
    · next hdue => exact ⟨h.link.stick hdue.1⟩
    · exact h
  | startBit =>
    refine act_linkKept h hexec ?_
    split
    · next hdue => exact ⟨h.link.dominantBit hdue.1⟩
    · exact h
  | parkRequestRecognised =>
    change execParkRequestRecognised s = .next t at hexec
    dsimp only [execParkRequestRecognised] at hexec
    refine act_linkKept h hexec ?_
    split
    · exact h
    · have hrecognised : ∀ n f g, (((s.elapse n).modTimers f).modEngine g).LinkKept := fun n _ _ => (h.elapse n).frame
      exact .ite (hrecognised _ _ _).returnRunning (hrecognised _ _ _)
  | trackError ch =>
    change execTrackError ch s = .next t at hexec
    dsimp only [execTrackError] at hexec
    refine act_linkKept h hexec ?_
    split
    · exact h
    · exact .ite (h.trackErrorUpdate ch _) h
  | overcurrent ch current =>
    change execOvercurrent ch current s = .next t at hexec
    dsimp only [execOvercurrent] at hexec
    refine act_linkKept h hexec ?_
    split
    · exact h
    · exact .ite ((h.elapse _).tripDriver ch) h
  | openCoilBlankingExpiry ch =>
    change execOpenCoilBlankingExpiry ch s = .next t at hexec
    dsimp only [execOpenCoilBlankingExpiry] at hexec
    refine act_linkKept h hexec ?_
    split
    · exact h
    · exact (h.elapse _).modTimers _
  | faultPulseExpiry =>
    change execFaultPulseExpiry s = .next t at hexec
    dsimp only [execFaultPulseExpiry] at hexec
    refine act_linkKept h hexec ?_
    split
    · exact h
    · exact (h.elapse _).modTimers _
  | openCoil ch =>
    change execOpenCoil ch s = .next t at hexec
    dsimp only [execOpenCoil] at hexec
    refine act_linkKept h hexec ?_
    split
    · exact h
    · exact .ite (h.openCoilTest ch _) h
  | statusTimerExpiry =>
    change execStatusTimerExpiry s = .next t at hexec
    dsimp only [execStatusTimerExpiry] at hexec
    refine act_linkKept h hexec ?_
    split
    · exact h
    · exact ((h.elapse _).modTimers _).queueStatus
  | glitch pin =>
    change execGlitch pin s = .next t at hexec
    dsimp only [execGlitch] at hexec
    refine act_linkKept h hexec ?_
    (repeat' split) <;> exact h.frame
  | releaseSuccess ch =>
    change execReleaseSuccess ch s = .next t at hexec
    dsimp only [execReleaseSuccess] at hexec
    refine act_linkKept h hexec ?_
    (repeat' split) <;> exact h.frame
  | returnArrival ch =>
    change execReturnArrival ch s = .next t at hexec
    dsimp only [execReturnArrival] at hexec
    refine act_linkKept h hexec ?_
    (repeat' split) <;> exact h.frame
  | nullTransfer ch =>
    change execNullTransfer ch s = .next t at hexec
    dsimp only [execNullTransfer] at hexec
    refine act_linkKept h hexec ?_
    (repeat' split) <;> exact h.frame
  | lossFreeRunExpiry | targetStale | oilReady | oilLow | peerEntryExpiry | engineStateStale | retryHoldExpiry =>
    exact act_linkKept h hexec (.ite h.frame h)

theorem step_linkKept {s t : State} (h : s.LinkKept) (hstep : step s = .next t) : t.LinkKept := by
  unfold step at hstep
  split at hstep
  · obtain rfl := Host.Outcome.next.inj hstep
    exact .ite h (h.elapse 1)
  · next rest _ =>
    have hqueue : State.LinkKept { s with pending := rest } := h.frame
    exact exec_linkKept hqueue hstep

/-- Settles O59: every operation of every block keeps the link's items in agreement. -/
theorem sendSlotsKept : Obligations.SendSlotsKept := fun s t hs hstep =>
  (linkSound_iff t).2 (step_linkKept ⟨(linkSound_iff s).1 hs⟩ hstep).link

end Sys2Proof.Machine
end

section
/-! PROOF. The parameters and the check value under every step (O60): the three changes that a command can make to the
configuration store, and that each keeps the parameters in range with their check value. -/

namespace Sys2Proof.Machine

/-! ### The store's changes (R169, R172, R174) -/

/-- The window's closing, a stored parameter and a reset are all that changes the store. -/
inductive Store.Move (c : Store) : Store → Prop
  | same : Move c c
  /-- The window closes, at the gain of synchronisation or by a CLOSE (R172). -/
  | closed : Move c { c with windowOpen := false }
  /-- A CONFIG stores a value limited to its parameter's range (R169). -/
  | stored {id lo hi : Nat} (hrange : paramRange id = some (lo, hi)) (value : Nat) :
      Move c (c.storeParam id (limitNat lo hi value))
  /-- A reset brings back the defaults (R174). -/
  | reset : Move c State.reset.store

theorem Store.move_of_eq {c c' : Store} (h : c' = c) : c.Move c' := h ▸ .same

/-! ### Crank edges and frames -/

/-- Of the crank edges only the one that gains REV_SYNC reaches the store (R172). -/
theorem State.crankEdge_storeMove (s : State) (t : Tick) (order : List CycleBlock) :
    s.store.Move (s.crankEdge t order).store := by
  have hseek : s.store.Move (s.seekEdge t).store := by
    unfold State.seekEdge
    split
    · exact .same
    · simp only
      split
      · exact .closed
      · exact .same
  unfold State.crankEdge
  split
  · exact .same
  · split
    · exact .same
    · exact hseek
    · exact Store.move_of_eq (by simp)
    · exact Store.move_of_eq (by simp)

theorem State.deliverEdge_storeMove (s : State) (pin : AnglePin) (t : Tick) (order : List CycleBlock) :
    s.store.Move (s.deliverEdge pin t order).store := by
  unfold State.deliverEdge
  split
  · exact s.crankEdge_storeMove t order
  · exact Store.move_of_eq (by simp)

theorem State.takeConfig_storeMove (s : State) (addressed : Bool) (id value : Word16) :
    s.store.Move (s.takeConfig addressed id value).store := by
  unfold State.takeConfig
  split
  · split
    · exact .same
    · next hrange => simpa using Store.Move.stored (c := s.store) hrange value.toNat
  · exact .same

theorem State.takeClose_storeMove (s : State) (addressed : Bool) : s.store.Move (s.takeClose addressed).store := by
  cases addressed with
  | false => exact .same
  | true => exact .closed

theorem State.takeRestart_storeMove (s : State) (addressed : Bool) (straps : Straps) :
    s.store.Move (s.takeRestart addressed straps).store := by
  unfold State.takeRestart
  split
  · exact .reset
  · exact .same

/-- A delivered frame reaches the store as a CONFIG, a CLOSE or a RESTART (R169, R172, R173). -/
theorem State.deliver_storeMove (s : State) (f : Frame) (straps : Straps) :
    s.store.Move (s.deliver f straps).store := by
  unfold State.deliver
  cases frameUse f with
  | config id value => exact s.takeConfig_storeMove _ id value
  | close => exact s.takeClose_storeMove _
  | restart => exact s.takeRestart_storeMove _ straps
  | target | status | unused => exact .same
  | engine | clear => exact Store.move_of_eq (by simp)

theorem State.receive_storeMove (s : State) (f : Frame) (straps : Straps) :
    s.store.Move (s.receive f straps).store := by
  simp only [State.receive]
  split
  · split
    · exact Store.move_of_eq (by simp)
    · split
      · simpa using (s.atBitRead fun l => l.endFrame.countGood).deliver_storeMove f straps
      · exact Store.move_of_eq (by simp)
  · exact .same

/-! ### Commands and steps -/

theorem act_storeMove {s t : State} {f : State → State} (hact : act s f = .next t)
    (hf : s.store.Move (f s).store) : s.store.Move t.store := by
  obtain rfl : (if s.supplyLow then s else f s) = t := Host.Outcome.next.inj hact
  split
  · exact .same
  · exact hf

theorem execPowerOnReset_storeMove {s t : State} {edge : SupplyEdge} {pins : StrapPins}
    (hexec : execPowerOnReset edge pins s = .next t) : s.store.Move t.store := by
  cases edge with
  | falls => cases hexec; exact .reset
  | rises =>
    obtain rfl := Host.Outcome.next.inj hexec
    split
    · exact .reset
    · exact .same

theorem execFilterTimeExpiry_storeMove {s t : State} {pin : AnglePin} {order : List CycleBlock}
    (hexec : execFilterTimeExpiry pin order s = .next t) : s.store.Move t.store := by
  refine act_storeMove hexec ?_
  split
  · exact .same
  · next c _ =>
    have hdelivered : ∀ n, s.store.Move (((s.elapse n).recognise pin).deliverEdge pin c.stamp order).store := fun n => by
      simpa using ((s.elapse n).recognise pin).deliverEdge_storeMove pin c.stamp order
    simp only
    split
    · exact Store.move_of_eq (by simp)
    · exact hdelivered _

/-- The commands that reach the store by their operations; every other command reaches only operations that leave the store as
it is. -/
theorem exec_storeMove {c : Instr} {s t : State} (hexec : exec c s = .next t) : s.store.Move t.store := by
  cases c with
  | powerOnReset => exact execPowerOnReset_storeMove hexec
  | filterTimeExpiry => exact execFilterTimeExpiry_storeMove hexec
  | parkPinChange => cases hexec; exact .same
  | target | status | engine | clear | config | close | restart | faultFrameReceived =>
    exact act_storeMove hexec (s.receive_storeMove _ _)
  | framePassedOver | addressClash =>
    refine act_storeMove hexec ?_
    split
    · exact s.receive_storeMove _ _
    · exact .same
  | _ =>
    dsimp only [exec, execFilterCandidateOpen, execGlitch, execStallTimerExpiry, execCrankUnstable,
      execLossFreeRunExpiry, execCamLost, execCamNoise, execTargetStale, execOilReady, execOilLow, execPeerEntryExpiry,
      execEngineStateStale, execParkRequestRecognised, execReleaseSuccess, execReleaseTimeout, execRetryHoldExpiry,
      execReturnArrival, execNoReturn, execNullTransfer, execTrackError, execPwmPeriodStart, execOnTimeEnd,
      execOvercurrent, execOpenCoilBlankingExpiry, execOpenCoil, execCurrentSample, execOilpSample, execOilpSensor,
      execVsupSample, execTdieSample, execFrameDiscarded, execLinkErrors, execLinkErrorsCleared, execSendStart,
      execLostArbitration, execBitError, execSlotDrop, execTransmissionComplete, execBusStuck, execBusStuckCleared,
      execStatusTimerExpiry, execFaultPulseExpiry, execStartBit, State.tripDriver, State.discard,
      State.loseArbitration, State.failBit] at hexec
    refine act_storeMove hexec (Store.move_of_eq ?_)
    (repeat' split) <;> simp

/-- What a step can do to the configuration store. -/
theorem step_storeMove {s t : State} (hstep : step s = .next t) : s.store.Move t.store := by
  unfold step at hstep
  split at hstep
  · obtain rfl := Host.Outcome.next.inj hstep
    unfold State.idle
    split
    · exact .same
    · exact Store.move_of_eq (by simp)
  · have hmove := exec_storeMove hstep
    exact hmove

/-! ### The ranges and the check value (R168, R171) -/

structure Store.Sound (c : Store) : Prop where
  range : ∀ id lo hi, paramRange id = some (lo, hi) → lo ≤ c.params.get id ∧ c.params.get id ≤ hi
  check : c.checkValue = c.params.check

theorem paramsSound_iff (s : State) : Safety.ParamsSound s ↔ s.store.Sound :=
  ⟨fun ⟨hrange, hcheck⟩ => ⟨hrange, hcheck⟩, fun ⟨hrange, hcheck⟩ => ⟨hrange, hcheck⟩⟩

theorem le_of_paramRange {id lo hi : Nat} (h : paramRange id = some (lo, hi)) : lo ≤ hi := by
  unfold paramRange at h
  split at h <;> cases h <;> decide

/-- A stored value is limited to its own parameter's range, and the check value is computed anew (R169, R171). -/
theorem Store.Sound.storeParam {c : Store} (h : c.Sound) {id lo hi : Nat} (hrange : paramRange id = some (lo, hi))
    (value : Nat) : (c.storeParam id (limitNat lo hi value)).Sound where
  range := fun k lo' hi' hk => by
    have hget : (c.storeParam id (limitNat lo hi value)).params.get k =
        if k = id then limitNat lo hi value else c.params.get k := c.params.get_set (lt_of_paramRange hrange) k _
    rw [hget]
    split
    · next hid =>
      subst hid
      cases hrange.symm.trans hk
      exact limitNat_bounds (le_of_paramRange hrange) value
    · exact h.range k lo' hi' hk
  check := rfl

theorem Store.Move.keepsSound {c c' : Store} (hmove : c.Move c') (h : c.Sound) : c'.Sound := by
  cases hmove with
  | same => exact h
  | closed => exact ⟨h.range, h.check⟩
  | stored hrange value => exact h.storeParam hrange value
  | reset => exact (paramsSound_iff .reset).1 paramsSound_reset

/-- Settles O60: the check value by its definition, and each change of the store by what it makes of the parameters. -/
theorem parametersKept : Obligations.ParametersKept :=
  ⟨Params.check_toNat, fun s t hs hstep =>
    (paramsSound_iff t).2 ((step_storeMove hstep).keepsSound ((paramsSound_iff s).1 hs))⟩

end Sys2Proof.Machine
end

section
/-! PROOF. RESTART (O38): the conditions under which it is taken, and the frame as an equation between whole states. -/

namespace Sys2Proof.Machine

/-- Every channel is PARKED or in FAULT exactly when both pass the store's test (R173). -/
theorem State.all_parkedOrFault_iff (s : State) :
    (∀ ch, s.channelState ch = .parked ∨ s.channelState ch = .fault) ↔
      (s.channelState .a).parkedOrFault = true ∧ (s.channelState .b).parkedOrFault = true := by
  simp only [ChannelState.parkedOrFault_iff]
  exact ⟨fun h => ⟨h .a, h .b⟩, fun ⟨ha, hb⟩ ch => by cases ch <;> assumption⟩

section TakeRestart

variable {s : State} (straps : Straps)

theorem State.takeRestart_of_ready (hcrank : s.decoder.crank = .stopped)
    (hchannels : ∀ ch, s.channelState ch = .parked ∨ s.channelState ch = .fault) :
    s.takeRestart true straps = s.resetWith straps := by
  obtain ⟨ha, hb⟩ := s.all_parkedOrFault_iff.1 hchannels
  simp [State.takeRestart, hcrank, ha, hb]

theorem State.takeRestart_of_not_ready
    (hnot : ¬(s.decoder.crank = .stopped ∧ ∀ ch, s.channelState ch = .parked ∨ s.channelState ch = .fault)) :
    s.takeRestart true straps = s := by
  rw [State.all_parkedOrFault_iff] at hnot
  exact if_neg (by simpa [and_assoc] using hnot)

end TakeRestart

theorem exec_restart_eq {s : State} {h : Header} (hears : Safety.Hears s) (hsource : h.source ≠ s.straps.address)
    (pins : StrapPins) :
    exec (.restart h pins) s =
      .next
        (if h.addressed = true ∧ h.dest = s.straps.address then s.frameRead.takeRestart true (sampleStraps pins)
        else s.frameRead) := by
  simp only [exec, execRestart, act_of_live hears.1]
  rw [State.receive_addressed (take := fun addressed u => u.takeRestart addressed (sampleStraps pins)) hears hsource
    (fun _ => rfl) fun _ => rfl]

/-- Settles O38: the frame by whether it is addressed to the part, and then by R173's conditions. -/
theorem restartTaken : Obligations.RestartTaken := by
  intro h pins s hears hsource taken
  have hexec := exec_restart_eq hears hsource pins
  refine ⟨fun ⟨haddressed, hdest, hcrank, hchannels⟩ => ?_, fun hignored => ?_⟩
  · rw [hexec, if_pos ⟨haddressed, hdest⟩,
      State.takeRestart_of_ready (s := s.frameRead) (sampleStraps pins) hcrank hchannels, sampleStraps_eq]
    rfl
  · rw [hexec]
    split
    · next hown =>
      obtain ⟨haddressed, hdest⟩ := hown
      have hnot : ¬(s.decoder.crank = .stopped ∧ ∀ ch, s.channelState ch = .parked ∨ s.channelState ch = .fault) :=
        fun hready => hignored ⟨haddressed, hdest, hready⟩
      rw [State.takeRestart_of_not_ready (s := s.frameRead) (sampleStraps pins) hnot]
      rfl
    · rfl

end Sys2Proof.Machine
end

section
/-! PROOF. What the part shows (O47): the STATUS and FAULT words field by field (R164, R166), FAULT_N in its two modes (R177,
R178) and the conditions of the two status lines by source code (R181). The value of a word is written as its lowest flags over
the rest, so that a flag is read by its place among them and a code by dropping them. -/

namespace Sys2Proof.Machine

/-! ### Flags below the rest of a number (R164) -/

/-- The number that has the flags, lowest first, as its lowest binary digits, and the rest above them. -/
def withFlags (flags : List Bool) (rest : Nat) : Nat := flags.foldr Nat.bit rest

theorem testBit_withFlags {flags : List Bool} {i : Nat} {b : Bool} (h : flags[i]? = some b) (rest : Nat) :
    (withFlags flags rest).testBit i = b := by
  induction flags generalizing i with
  | nil => simp at h
  | cons flag flags ih =>
    cases i with
    | zero => simpa [withFlags] using h
    | succ i => simpa [withFlags, Nat.testBit_bit_succ] using ih (by simpa using h)

theorem withFlags_div (flags : List Bool) (rest : Nat) : withFlags flags rest / 2 ^ flags.length = rest := by
  induction flags with
  | nil => simp [withFlags]
  | cons flag flags ih =>
    rw [List.length_cons, pow_succ', ← Nat.div_div_eq_div_mul]
    simpa [withFlags] using ih

theorem withFlags_lt (flags : List Bool) {rest k : Nat} (h : rest < 2 ^ k) :
    withFlags flags rest < 2 ^ (flags.length + k) := by
  induction flags with
  | nil => simpa [withFlags] using h
  | cons flag flags ih =>
    rw [List.length_cons, Nat.succ_add]
    simpa [withFlags, Nat.bit_lt_two_pow_succ_iff] using ih

theorem withFlags_cons (flag : Bool) (flags : List Bool) (rest : Nat) :
    withFlags (flag :: flags) rest = 2 * withFlags flags rest + flag.toNat := Nat.bit_val _ _

theorem withFlags_nil (rest : Nat) : withFlags [] rest = rest := rfl

theorem bit_eq_mul (b : Bool) (place : Nat) : bit b place = 2 ^ place * b.toNat := by
  cases b <;> simp [bit]

/-- A number of flags over a rest that fits keeps its value in a word. -/
theorem toNat_ofNat_of_flags {n k rest : Nat} {flags : List Bool} (hn : n = withFlags flags rest)
    (hk : flags.length + k = 16) (hrest : rest < 2 ^ k) : (BitVec.ofNat 16 n).toNat = withFlags flags rest := by
  rw [BitVec.toNat_ofNat, hn, ← hk, Nat.mod_eq_of_lt (withFlags_lt flags hrest)]

section Word

variable {w : Word16} {flags : List Bool} {rest : Nat} (hw : w.toNat = withFlags flags rest)
include hw

theorem getLsbD_of_flags {i : Nat} {b : Bool} (h : flags[i]? = some b) : w.getLsbD i = b := by
  rw [← BitVec.testBit_toNat, hw, testBit_withFlags h]

theorem toNat_div_of_flags {n : Nat} (h : flags.length = n) : w.toNat / 2 ^ n = rest := by
  rw [hw, ← h, withFlags_div]

end Word

/-! ### The STATUS words (R164) -/

theorem CrankState.code_lt (c : CrankState) : c.code < 4 := by cases c <;> decide

theorem ChannelState.code_lt (c : ChannelState) : c.code < 8 := by cases c <;> decide

/-- Above the seven lowest flags of STATUS word 0 stand both channel state codes, the flag of the closed window and the crank
state code. -/
theorem State.statusWord0_toNat (s : State) :
    s.statusWord0.toNat =
      withFlags
        [s.conditions.underVoltage, s.conditions.derate, s.oil.limiting, s.link.linkErrors, !s.faults.station.isEmpty,
          s.controllers.b.reached, s.controllers.a.reached]
        ((s.channelState .b).code +
          8 * ((s.channelState .a).code + 8 * withFlags [!s.store.windowOpen] s.decoder.crank.code)) := by
  have ha := (s.channelState .a).code_lt
  have hb := (s.channelState .b).code_lt
  have hcrank := withFlags_lt [!s.store.windowOpen] (k := 2) s.decoder.crank.code_lt
  refine toNat_ofNat_of_flags (k := 9) ?_ rfl (by simp only [List.length_singleton] at hcrank; omega)
  simp only [bit_eq_mul, Pair.get, withFlags_cons, withFlags_nil]
  ring

theorem State.statusWord0_fields (s : State) :
    s.statusWord0.toNat / 2 ^ 14 = s.decoder.crank.code ∧ s.statusWord0.getLsbD 13 = !s.store.windowOpen ∧
      s.statusWord0.toNat / 2 ^ 10 % 8 = (s.channelState .a).code ∧
      s.statusWord0.toNat / 2 ^ 7 % 8 = (s.channelState .b).code ∧
      s.statusWord0.getLsbD 6 = s.controllers.a.reached ∧ s.statusWord0.getLsbD 5 = s.controllers.b.reached ∧
      s.statusWord0.getLsbD 4 = !s.faults.station.isEmpty ∧ s.statusWord0.getLsbD 3 = s.link.linkErrors ∧
      s.statusWord0.getLsbD 2 = s.oil.limiting ∧ s.statusWord0.getLsbD 1 = s.conditions.derate ∧
      s.statusWord0.getLsbD 0 = s.conditions.underVoltage := by
  have ha := (s.channelState .a).code_lt
  have hb := (s.channelState .b).code_lt
  have hword := s.statusWord0_toNat
  have hcodes := toNat_div_of_flags hword (n := 7) rfl
  have hcrank := withFlags_div [!s.store.windowOpen] s.decoder.crank.code
  have habove : s.statusWord0.toNat / 2 ^ 13 = withFlags [!s.store.windowOpen] s.decoder.crank.code := by omega
  have hwindow : s.statusWord0.getLsbD 13 = !s.store.windowOpen := by
    rw [← BitVec.testBit_toNat, ← Nat.zero_add 13, ← Nat.testBit_div_two_pow, habove, testBit_withFlags rfl]
  rw [← habove, Nat.div_div_eq_div_mul] at hcrank
  exact ⟨hcrank, hwindow, by omega, by omega, getLsbD_of_flags hword rfl, getLsbD_of_flags hword rfl,
    getLsbD_of_flags hword rfl, getLsbD_of_flags hword rfl, getLsbD_of_flags hword rfl, getLsbD_of_flags hword rfl,
    getLsbD_of_flags hword rfl⟩

theorem State.statusWord5_toNat (s : State) :
    s.statusWord5.toNat =
      withFlags [false, s.drivers.b.saturated, s.drivers.a.saturated, s.engine.parkRequest, decide (s.straps.role = .rear)]
        (s.oil.budget % 64 + 64 * (s.oil.ownClaim % 32)) := by
  refine toNat_ofNat_of_flags (k := 11) ?_ rfl (by omega)
  simp only [bit_eq_mul, Pair.get, withFlags_cons, withFlags_nil, Bool.toNat_false]
  ring

theorem State.statusWord5_fields (s : State) :
    (s.oil.ownClaim ≤ 30 → s.statusWord5.toNat / 2 ^ 11 = s.oil.ownClaim) ∧
      (s.oil.budget ≤ 60 → s.statusWord5.toNat / 2 ^ 5 % 64 = s.oil.budget) ∧
      s.statusWord5.getLsbD 4 = decide (s.straps.role = .rear) ∧ s.statusWord5.getLsbD 3 = s.engine.parkRequest ∧
      s.statusWord5.getLsbD 2 = s.drivers.a.saturated ∧ s.statusWord5.getLsbD 1 = s.drivers.b.saturated ∧
      s.statusWord5.getLsbD 0 = false := by
  have hword := s.statusWord5_toNat
  have habove := toNat_div_of_flags hword (n := 5) rfl
  exact ⟨fun hclaim => by omega, fun hbudget => by omega, getLsbD_of_flags hword rfl, getLsbD_of_flags hword rfl,
    getLsbD_of_flags hword rfl, getLsbD_of_flags hword rfl, getLsbD_of_flags hword rfl⟩

/-! ### The FAULT words (R164, R166) -/

/-- A FAULT frame's first word in a channel's scope. -/
theorem ChannelFaults.scopedWord_toNat (f : ChannelFaults) (ch : Channel) :
    (BitVec.ofNat 16 (scopeCode ch * 2 ^ 14 + f.byte)).toNat =
      withFlags
        [f.camLost, f.camNoise, f.parkOffsetRange, f.lockStuck, f.noReturn, f.trackError, f.overcurrent, f.openCoil]
        (scopeCode ch * 2 ^ 6) := by
  have hscope : scopeCode ch ≤ 2 := by cases ch <;> decide
  refine toNat_ofNat_of_flags (k := 8) ?_ rfl (by omega)
  simp only [ChannelFaults.byte, bit_eq_mul, withFlags_cons, withFlags_nil]
  ring

theorem StationFaults.byte_toNat (f : StationFaults) :
    (BitVec.ofNat 16 f.byte).toNat = withFlags [f.oilpSensor, f.addressClash, f.crankUnstable] 0 := by
  refine toNat_ofNat_of_flags (k := 13) ?_ rfl (by decide)
  simp only [StationFaults.byte, bit_eq_mul, withFlags_cons, withFlags_nil]
  ring

theorem CrankState.toNat_code (c : CrankState) : (BitVec.ofNat 16 c.code).toNat = c.code := by cases c <;> rfl

theorem ChannelState.toNat_code (c : ChannelState) : (BitVec.ofNat 16 c.code).toNat = c.code := by cases c <;> rfl

theorem State.channelFaultFrame_fields (s : State) (ch : Channel) :
    ∃ w0 w2 : Word16,
      s.channelFaultFrame ch =
          ⟨0, ⟨s.straps.address, false, 0⟩, [w0, phaseWord (s.meters.get ch).estimate, w2]⟩ ∧
        w0.toNat / 2 ^ 8 = scopeCode ch * 2 ^ 6 ∧
        (let f := s.faults.channel.get ch
         w0.getLsbD 0 = f.camLost ∧ w0.getLsbD 1 = f.camNoise ∧ w0.getLsbD 2 = f.parkOffsetRange ∧
          w0.getLsbD 3 = f.lockStuck ∧ w0.getLsbD 4 = f.noReturn ∧ w0.getLsbD 5 = f.trackError ∧
          w0.getLsbD 6 = f.overcurrent ∧ w0.getLsbD 7 = f.openCoil) ∧
        w2.toNat = (s.channelState ch).code := by
  have hword := (s.faults.channel.get ch).scopedWord_toNat ch
  refine ⟨_, _, rfl, toNat_div_of_flags hword rfl, ?_, ChannelState.toNat_code _⟩
  exact ⟨getLsbD_of_flags hword rfl, getLsbD_of_flags hword rfl, getLsbD_of_flags hword rfl, getLsbD_of_flags hword rfl,
    getLsbD_of_flags hword rfl, getLsbD_of_flags hword rfl, getLsbD_of_flags hword rfl, getLsbD_of_flags hword rfl⟩

theorem State.stationFaultFrame_fields (s : State) :
    ∃ w0 w2 : Word16,
      s.stationFaultFrame = ⟨0, ⟨s.straps.address, false, 0⟩, [w0, 0x8000, w2]⟩ ∧ w0.toNat / 2 ^ 3 = 0 ∧
        w0.getLsbD 0 = s.faults.station.oilpSensor ∧ w0.getLsbD 1 = s.faults.station.addressClash ∧
        w0.getLsbD 2 = s.faults.station.crankUnstable ∧ w2.toNat = s.decoder.crank.code := by
  have hword := s.faults.station.byte_toNat
  exact ⟨_, _, rfl, toNat_div_of_flags hword rfl, getLsbD_of_flags hword rfl, getLsbD_of_flags hword rfl,
    getLsbD_of_flags hword rfl, CrankState.toNat_code _⟩

/-! ### Both channels -/

theorem Channel.forall_iff {P : Channel → Prop} : (∀ ch, P ch) ↔ P .a ∧ P .b :=
  ⟨fun h => ⟨h .a, h .b⟩, fun ⟨ha, hb⟩ ch => by cases ch <;> assumption⟩

theorem Channel.exists_iff {P : Channel → Prop} : (∃ ch, P ch) ↔ P .a ∨ P .b :=
  ⟨fun ⟨ch, h⟩ => by cases ch; exacts [.inl h, .inr h], fun h => h.elim (⟨.a, ·⟩) (⟨.b, ·⟩)⟩

/-! ### FAULT_N (R177, R178) -/

theorem Faults.allEmpty_iff (f : Faults) :
    f.allEmpty = true ↔ (∀ ch k, (f.channel.get ch).has k = false) ∧ ∀ k, f.station.has k = false := by
  simp only [Faults.allEmpty, Bool.and_eq_true, ChannelFaults.isEmpty_iff, StationFaults.isEmpty_iff,
    Channel.forall_iff, Pair.get]

theorem State.faultNLow_of_level {s : State} (h : s.straps.faultLine = .level) :
    s.faultNLow = true ↔ (∃ ch k, (s.faults.channel.get ch).has k = true) ∨ ∃ k, s.faults.station.has k = true := by
  simp only [State.faultNLow, h, Bool.not_eq_true', ← Bool.not_eq_true, Faults.allEmpty_iff, not_and_or, not_forall, not_not]

theorem State.faultNLow_of_pulse {s : State} (h : s.straps.faultLine = .pulse) :
    s.faultNLow = true ↔ ∃ n, s.timers.pulse = some n := by
  simp only [State.faultNLow, h, Option.isSome_iff_exists]

/-! ### The status lines (R181) -/

theorem State.lineCondition_of_code (s : State) (code : Nat) :
    (code = 0 → s.lineCondition code = false) ∧
      (code = 1 → (s.lineCondition code = true ↔ s.decoder.crank = .cycleSync)) ∧
      (code = 2 → (s.lineCondition code = true ↔ ∀ ch, s.channelState ch = .tracking)) ∧
      (code = 3 → (s.lineCondition code = true ↔ ∃ ch, s.channelState ch = .returning)) ∧
      (code = 4 → (s.lineCondition code = true ↔ s.link.linkErrors = true ∨ s.link.busStuck = true)) ∧
      (code = 5 → s.lineCondition code = s.oil.limiting) ∧ (code = 6 → s.lineCondition code = s.engine.parkRequest) ∧
      (code = 7 → s.lineCondition code = s.conditions.derate) := by
  refine ⟨?_, ?_, ?_, ?_, ?_, ?_, ?_, ?_⟩ <;> rintro rfl
  · rfl
  · exact decide_eq_true_iff
  · simp only [State.lineCondition, Bool.and_eq_true, decide_eq_true_eq, Channel.forall_iff]
  · simp only [State.lineCondition, Bool.or_eq_true, decide_eq_true_eq, Channel.exists_iff]
  · exact Bool.or_eq_true_iff
  · rfl
  · rfl
  · rfl

/-- Settles O47: each word by its fields, and each line by its condition. -/
theorem framesBuiltAndLines : Obligations.FramesBuiltAndLines := by
  intro s crankCode stateCode
  refine ⟨?_, fun ch => ?_, s.stationFaultFrame_fields, State.faultNLow_of_level, State.faultNLow_of_pulse, ?_⟩
  · obtain ⟨hcrank, hwindow, ha, hb, hreachedA, hreachedB, hstation, herrors, hlimiting, hderate, hunder⟩ :=
      s.statusWord0_fields
    obtain ⟨hclaim, hbudget, hrole, hpark, hsatA, hsatB, hzero⟩ := s.statusWord5_fields
    exact ⟨_, _, _, _, _, _, _, rfl, hcrank, hwindow, ha, hb, hreachedA, hreachedB, hstation, herrors, hlimiting,
      hderate, hunder, rfl, rfl, rfl, rfl, hclaim, hbudget, hrole, hpark, hsatA, hsatB, hzero, rfl⟩
  · obtain ⟨w0, w2, hframe, hscope, hflags, hstate⟩ := s.channelFaultFrame_fields ch
    exact ⟨w0, _, w2, hframe, by cases ch <;> exact hscope, hflags, rfl, hstate⟩
  · rintro code low (⟨rfl, rfl⟩ | ⟨rfl, rfl⟩)
    · exact s.lineCondition_of_code _
    · exact s.lineCondition_of_code _

end Sys2Proof.Machine
end

section
/-! PROOF. The step on a queue that holds a command (O1), beside `step_of_nil` for the empty queue. -/

namespace Sys2Proof.Machine

theorem step_of_cons {c : Instr} {rest : List Instr} {s : State} (h : s.pending = c :: rest) :
    step s = exec c { s with pending := rest } := by
  rw [step, h]

/-- Settles O1: a queue with a front command takes the second branch of `step`. -/
theorem stepRunsFrontCommand : Obligations.StepRunsFrontCommand := fun _ _ _ hqueue => step_of_cons hqueue

end Sys2Proof.Machine
end
